-- ==== Sys2Proof/Word.lean ====
section
/-! DEFINITION. The word types of the block (spec 00_scope.md R7). -/

namespace Sys2Proof

/-- A host register: 16 bits (R7). -/
abbrev Word := BitVec 16

/-- A bus byte, buffer or sensor register address: 8 bits (R7). -/
abbrev Byte := BitVec 8

/-- A 32-bit data register (R7). -/
abbrev Long := BitVec 32

end Sys2Proof
end

