-- ==== Sys2Proof/Config.lean ====
section
/-! DEFINITION. The parameters of the block (spec 00_scope.md R6) and the free values: what an implementation fixes and no step changes. -/

namespace Sys2Proof

/-- `TIMEOUT_POLICY` (R6, D11): what happens to a wait that never ends. -/
inductive TimeoutPolicy
  | block
  | timeout
deriving DecidableEq, Repr

/-- `TEMP_ARITH` (R6, D16): the arithmetic of the temperature formula. -/
inductive TempArith
  | real
  | binary32
  | binary64
  | int
deriving DecidableEq, Repr

/-- The parameters of R6 that have a default. A state carries one of these unchanged, so a statement about every state is a
statement about every value of the parameters (log entry 3). -/
structure Config where
  /-- `DEV_ADDR`, default 0x77 (D8). -/
  devAddr : BitVec 7 := 0x77#7
  /-- `REG_OUT`, default 0xF6 (D9). -/
  regOut : Byte := 0xF6#8
  /-- `REG_CAL`, default 0xAA (D9). -/
  regCal : Byte := 0xAA#8
  /-- `TIMEOUT_POLICY`, default `BLOCK` (D11). -/
  policy : TimeoutPolicy := .block
  /-- `TEMP_ARITH`, default `REAL` (D16). -/
  tempArith : TempArith := .real
deriving DecidableEq, Repr

/-- Every parameter at the default of R6. -/
def Config.default : Config := {}

/-- `REG_CTRL`: the sensor register that takes conversion commands (R6, source). -/
def Config.regCtrl : Byte := 0xF4#8

/-- `CAL_BYTES`: bytes of the calibration read (R6, source). -/
def Config.calBytes : Nat := 22

/-- `N_COEF`: calibration coefficients (R6, source). -/
abbrev Config.nCoef : Nat := 11

/-- `RXDATA_SIZE`: bytes of the receive data buffer (R6, D19). -/
abbrev Config.rxdataSize : Nat := 32

/-- `F_BUS` in Hz (R6). No rule reads it. -/
def Config.fBus : Nat := 100000

/-- `BASE`, the host address of offset 0x00: OPEN (R6, D2), a free value (log entry 3). -/
opaque Config.base : Nat

/-- `BUS_CLK_DIV`, the value INIT writes to I2CBRW: OPEN (R6, D10), a free value (log entry 3). -/
opaque Config.busClkDiv : Word

/-- The bus peer's acknowledge bit at the n-th free draw: an oracle answer under no law (41_bus_controller.md R158; log entry 2). -/
opaque Config.peerAck : Nat → Bool

/-- The bus peer's byte at the n-th free draw: an oracle answer under no law (41_bus_controller.md R158; log entry 2). -/
opaque Config.peerByte : Nat → Byte

end Sys2Proof
end

