-- ==== Sys2Proof/Syntax.lean ====
section
/-! DEFINITION. The block's instructions: one constructor per row of spec/opcode_table.json, and what carries their bits (spec 30_encoding.md). -/

namespace Sys2Proof

/-- What a write of I2CCTL writes: the fields of 10_state.md R30 that a written bit reaches (R37, 41_bus_controller.md R141). The
reserved and hardwired bits 3, 5, 12 to 15 are no fields: they ignore writes (R36). -/
structure CtlWrite where
  /-- bit 0 -/
  swrst : Bool
  /-- bit 1: request START or restart -/
  txstt : Bool
  /-- bit 2: request STOP -/
  txstp : Bool
  /-- bit 4 -/
  tr : Bool
  /-- bits 7:6 -/
  ssel : BitVec 2
  /-- bit 8 -/
  sync : Bool
  /-- bits 10:9 -/
  mode : BitVec 2
  /-- bit 11 -/
  mst : Bool
deriving DecidableEq, Repr

/-- A host access to the register window (20_memory.md R80, R81): an offset 0x00 to 0x7F from BASE and a width in bytes. The
value of a write is its low 16 bits; an access of another width than 2 is refused whatever its value. -/
inductive Access
  /-- `MemRead(BASE + off, width)` -/
  | read (width : Nat) (off : BitVec 7)
  /-- `MemWrite(BASE + off, width, v)` -/
  | write (width : Nat) (off : BitVec 7) (v : Word)
deriving DecidableEq, Repr

/-- Where the bits of an instruction come from: a decoder tells the formats apart by this, never by the bits (R110). -/
inductive Carrier
  /-- F-CMD and F-REGACT: a host access -/
  | host (a : Access)
  /-- F-CTRL: the data byte of a write to the sensor register REG_CTRL -/
  | control (b : Byte)
  /-- F-ADDR: the first byte after a START or restart -/
  | address (b : Byte)
deriving DecidableEq, Repr

/-- The commands of the engine (R113). -/
inductive Command
  | init
  | writeReg
  | readBytes
  | readCal
  | measureT
  | measureP
  | calcT
  | calcP
deriving DecidableEq, Repr

/-- One constructor per row of spec/opcode_table.json. A command carries OSS, bits 5:4 of its word, whether or not it reads it:
CMD and ENG.oss hold the bits as written (42_transport.md R180). The five I2CCTL rows are one access each, a whole write of the
register, named by the last action it selects (R119; log entry 8). -/
inductive Instr
  /-- INIT (R183) -/
  | init (oss : BitVec 2)
  /-- WRITE_REG (R185) -/
  | writeReg (oss : BitVec 2)
  /-- READ_BYTES (R187) -/
  | readBytes (oss : BitVec 2)
  /-- READ_CAL (R210) -/
  | readCal (oss : BitVec 2)
  /-- MEASURE_T (R222) -/
  | measureT (oss : BitVec 2)
  /-- MEASURE_P (R225) -/
  | measureP (oss : BitVec 2)
  /-- CALC_T (R244) -/
  | calcT (oss : BitVec 2)
  /-- CALC_P (R251) -/
  | calcP (oss : BitVec 2)
  /-- CTRL_TEMP (R116): the byte 0x2E -/
  | ctrlTemp
  /-- CTRL_PRESS (R116): the byte 0x34 + (oss << 6) -/
  | ctrlPress (oss : BitVec 2)
  /-- ADDR_WRITE (R118): the byte a : 0 -/
  | addrWrite (a : BitVec 7)
  /-- ADDR_READ (R118): the byte a : 1 -/
  | addrRead (a : BitVec 7)
  /-- CTL_CONFIG (R141): a write of I2CCTL that selects no further action -/
  | ctlConfig (w : CtlWrite)
  /-- CTL_ENTER_RESET (R142): bit 0 = 1 -/
  | ctlEnterReset (w : CtlWrite)
  /-- CTL_LEAVE_RESET (R143): bit 0 = 0 while SWRST = 1 -/
  | ctlLeaveReset (w : CtlWrite)
  /-- CTL_START (R144): bit 1 = 1, direction in bit 4 -/
  | ctlStart (w : CtlWrite)
  /-- CTL_STOP (R145): bit 2 = 1 -/
  | ctlStop (w : CtlWrite)
  /-- TX_BYTE (R146): write of I2CTXBUF -/
  | txByte (b : Byte)
  /-- RX_BYTE (R147): read of I2CRXBUF -/
  | rxByte
  /-- IFG_WRITE (R148): write of I2CIFG, bits 0, 1 and 5 -/
  | ifgWrite (rxifg txifg nackifg : Bool)
  /-- SA_WRITE (R149): write of I2CSA -/
  | saWrite (a : BitVec 7)
  /-- BRW_WRITE (R150): write of I2CBRW -/
  | brwWrite (div : Word)
deriving DecidableEq, Repr

end Sys2Proof
end

