-- ==== Sys2Proof/WellFormed.lean ====
section
/-! DEFINITION. When an instruction is well formed: the bits its row of the opcode table fixes have their fixed values and it is named by the last action it selects (spec 30_encoding.md R119, log entry 8). -/

namespace Sys2Proof

/-- The checks on the operand of the five I2CCTL rows; the operands of every other row take any value of their type. -/
def Instr.wf : Instr → Bool
  | .init _ => true
  | .writeReg _ => true
  | .readBytes _ => true
  | .readCal _ => true
  | .measureT _ => true
  | .measureP _ => true
  | .calcT _ => true
  | .calcP _ => true
  | .ctrlTemp => true
  | .ctrlPress _ => true
  | .addrWrite _ => true
  | .addrRead _ => true
  | .ctlConfig w => !w.txstt && !w.txstp
  | .ctlEnterReset w => w.swrst && !w.txstt && !w.txstp
  | .ctlLeaveReset w => !w.swrst && !w.txstt && !w.txstp
  | .ctlStart w => w.txstt && !w.txstp
  | .ctlStop w => w.txstp
  | .txByte _ => true
  | .rxByte => true
  | .ifgWrite _ _ _ => true
  | .saWrite _ => true
  | .brwWrite _ => true

/-- Whether the row is selected while SWRST has the value `swrst`: CTL_ENTER_RESET is effective only while SWRST = 0,
CTL_LEAVE_RESET only while SWRST = 1 (R119, R142, R143), and a write that changes SWRST is no mere CTL_CONFIG. -/
def Instr.selected (swrst : Bool) : Instr → Bool
  | .ctlConfig w => w.swrst == swrst
  | .ctlEnterReset _ => !swrst
  | .ctlLeaveReset _ => swrst
  | _ => true

end Sys2Proof
end

