-- ==== Sys2Proof/Decode.lean ====
section
/-! DEFINITION. Decoding and encoding (spec 30_encoding.md R110 to R119): a total decoder from what carries the bits to an instruction or a named rejection, and the encoder from the same tables. -/

namespace Sys2Proof

/-- Why the decoder gives no instruction. -/
inductive DecodeError
  /-- A byte access, an odd offset or a 32-bit access (20_memory.md R81). -/
  | accessShape
  /-- A CMD word with a reserved OP or a nonzero RSV field (R114). -/
  | illegalCommand (w : Word)
  /-- An access to a register that has no row of the table: it only reads or stores (20_memory.md R84, R85). -/
  | plainAccess
  /-- A data byte for REG_CTRL that is no sensor command (R116). -/
  | notControl (b : Byte)
deriving DecidableEq, Repr

/-! Fields -/

/-- The fields of a written I2CCTL word (10_state.md R30, 41_bus_controller.md R141). -/
def decodeCtlWrite (v : Word) : CtlWrite where
  swrst := v.getLsbD 0
  txstt := v.getLsbD 1
  txstp := v.getLsbD 2
  tr := v.getLsbD 4
  ssel := v.extractLsb' 6 2
  sync := v.getLsbD 8
  mode := v.extractLsb' 9 2
  mst := v.getLsbD 11

/-- The I2CCTL word with these fields, its reserved and hardwired bits 0 (10_state.md R30). -/
def encodeCtlWrite (w : CtlWrite) : Word :=
  0#4 ++ BitVec.ofBool w.mst ++ w.mode ++ BitVec.ofBool w.sync ++ w.ssel ++ 0#1 ++ BitVec.ofBool w.tr ++ 0#1
    ++ BitVec.ofBool w.txstp ++ BitVec.ofBool w.txstt ++ BitVec.ofBool w.swrst

/-- Format F-CMD (R111): OP in bits 3:0, OSS in bits 5:4, RSV 0. -/
def commandWord (op : BitVec 4) (oss : BitVec 2) : Word := 0#10 ++ oss ++ op

/-- Format F-ADDR (R118): the address in bits 7:1, R/W in bit 0 (1 = read). -/
def addressByte (a : BitVec 7) (rw : Bool) : Byte := a ++ BitVec.ofBool rw

/-- Format F-CTRL, temperature (R116). -/
def tempControlByte : Byte := 0x2E#8

/-- Format F-CTRL, pressure (R116): `0x34 + (oss << 6)`. -/
def pressControlByte (oss : BitVec 2) : Byte := 0x34#8 + (oss.setWidth 8 <<< 6)

/-! Register offsets of the rows (20_memory.md R84) -/

abbrev offI2cctl : BitVec 7 := 0x00#7
abbrev offI2cbrw : BitVec 7 := 0x02#7
abbrev offI2crxbuf : BitVec 7 := 0x06#7
abbrev offI2ctxbuf : BitVec 7 := 0x08#7
abbrev offI2csa : BitVec 7 := 0x0A#7
abbrev offI2cifg : BitVec 7 := 0x0C#7
abbrev offCmd : BitVec 7 := 0x10#7

/-- The offset of a host address in the window, if it lies there: `addr = BASE + offset` (00_scope.md R10, 20_memory.md R80). An
address outside the window is no access to the block. -/
def windowOffset (addr : Nat) : Option (BitVec 7) :=
  if Config.base ≤ addr ∧ addr < Config.base + 128 then some (BitVec.ofNat 7 (addr - Config.base)) else none

/-! Decoding -/

/-- The command word decoder (R114). -/
def decodeCommand (w : Word) : Option Instr :=
  if w.extractLsb' 6 10 = 0#10 then
    let oss := w.extractLsb' 4 2
    match (w.extractLsb' 0 4).toNat with
    | 1 => some (.init oss)
    | 2 => some (.writeReg oss)
    | 3 => some (.readBytes oss)
    | 4 => some (.readCal oss)
    | 5 => some (.measureT oss)
    | 6 => some (.measureP oss)
    | 7 => some (.calcT oss)
    | 8 => some (.calcP oss)
    | _ => none
  else none

/-- The row of a write of I2CCTL while SWRST has the value `swrst`: the last action it selects in the order of 10_state.md R37
(R119; log entry 8). -/
def decodeCtl (swrst : Bool) (w : CtlWrite) : Instr :=
  if w.txstp then .ctlStop w
  else if w.txstt then .ctlStart w
  else if w.swrst && !swrst then .ctlEnterReset w
  else if !w.swrst && swrst then .ctlLeaveReset w
  else .ctlConfig w

/-- The sensor command byte decoder (R116). -/
def decodeControl (b : Byte) : Option Instr :=
  if b = tempControlByte then some .ctrlTemp
  else if b.extractLsb' 0 6 = 0x34#6 then some (.ctrlPress (b.extractLsb' 6 2))
  else none

/-- The bus address byte decoder (R118). -/
def decodeAddress (b : Byte) : Instr :=
  if b.getLsbD 0 then .addrRead (b.extractLsb' 1 7) else .addrWrite (b.extractLsb' 1 7)

/-- Whether an access has the one shape the window admits: 16 bits at an even offset (20_memory.md R81). -/
def Access.shapeOk : Access → Bool
  | .read width off => width == 2 && off.toNat % 2 == 0
  | .write width off _ => width == 2 && off.toNat % 2 == 0

/-- The row of a host access of the admitted shape (R119 and R114). -/
def decodeAccess (swrst : Bool) : Access → Except DecodeError Instr
  | .read _ off => if off = offI2crxbuf then .ok .rxByte else .error .plainAccess
  | .write _ off v =>
    if off = offI2cctl then .ok (decodeCtl swrst (decodeCtlWrite v))
    else if off = offI2cbrw then .ok (.brwWrite v)
    else if off = offI2ctxbuf then .ok (.txByte (v.extractLsb' 0 8))
    else if off = offI2csa then .ok (.saWrite (v.extractLsb' 0 7))
    else if off = offI2cifg then .ok (.ifgWrite (v.getLsbD 0) (v.getLsbD 1) (v.getLsbD 5))
    else if off = offCmd then
      match decodeCommand v with
      | some i => .ok i
      | none => .error (.illegalCommand v)
    else .error .plainAccess

/-- The decoder. It is told where the bits come from (R110) and the value of SWRST, on which two rows depend (R119). -/
def decode (swrst : Bool) : Carrier → Except DecodeError Instr
  | .host a => if a.shapeOk then decodeAccess swrst a else .error .accessShape
  | .control b =>
    match decodeControl b with
    | some i => .ok i
    | none => .error (.notControl b)
  | .address b => .ok (decodeAddress b)

/-! Encoding -/

/-- The carrier of a command word: a host write of CMD (R110). -/
def commandCarrier (op : BitVec 4) (oss : BitVec 2) : Carrier := .host (.write 2 offCmd (commandWord op oss))

/-- The carrier of an I2CCTL write. -/
def ctlCarrier (w : CtlWrite) : Carrier := .host (.write 2 offI2cctl (encodeCtlWrite w))

/-- The encoder, from the same tables (R111 to R119). Bits a row ignores are 0. -/
def encode : Instr → Carrier
  | .init oss => commandCarrier 0x1#4 oss
  | .writeReg oss => commandCarrier 0x2#4 oss
  | .readBytes oss => commandCarrier 0x3#4 oss
  | .readCal oss => commandCarrier 0x4#4 oss
  | .measureT oss => commandCarrier 0x5#4 oss
  | .measureP oss => commandCarrier 0x6#4 oss
  | .calcT oss => commandCarrier 0x7#4 oss
  | .calcP oss => commandCarrier 0x8#4 oss
  | .ctrlTemp => .control tempControlByte
  | .ctrlPress oss => .control (pressControlByte oss)
  | .addrWrite a => .address (addressByte a false)
  | .addrRead a => .address (addressByte a true)
  | .ctlConfig w => ctlCarrier w
  | .ctlEnterReset w => ctlCarrier w
  | .ctlLeaveReset w => ctlCarrier w
  | .ctlStart w => ctlCarrier w
  | .ctlStop w => ctlCarrier w
  | .txByte b => .host (.write 2 offI2ctxbuf (b.setWidth 16))
  | .rxByte => .host (.read 2 offI2crxbuf)
  | .ifgWrite r t n =>
    .host (.write 2 offI2cifg (0#10 ++ BitVec.ofBool n ++ 0#3 ++ BitVec.ofBool t ++ BitVec.ofBool r))
  | .saWrite a => .host (.write 2 offI2csa (a.setWidth 16))
  | .brwWrite div => .host (.write 2 offI2cbrw div)

/-! Bare words of the opcode table -/

/-- What carries a bare word of the opcode table, which the table numbers without saying its register (log entry 10): a byte is a
sensor command where it is one and an address byte otherwise; a 16-bit word is a CMD word where it is legal and a write of
I2CCTL otherwise. -/
def tableCarrier (nbits w : Nat) : Option Carrier :=
  if nbits ≤ 8 then
    let b := BitVec.ofNat 8 w
    some (if (decodeControl b).isSome then .control b else .address b)
  else if nbits ≤ 16 then
    let v := BitVec.ofNat 16 w
    some (.host (.write 2 (if (decodeCommand v).isSome then offCmd else offI2cctl) v))
  else none

/-- The instruction the decoder reads from a bare word of the opcode table, with SWRST = 1 as right after reset (log entry 10). -/
def decodeTableWord (nbits w : Nat) : Option Instr :=
  match tableCarrier nbits w with
  | none => none
  | some c =>
    match decode true c with
    | .ok i => some i
    | .error _ => none

end Sys2Proof
end

