-- ==== Sys2Proof/Machine/State.lean ====
section
/-! DEFINITION. The state of the block (spec 10_state.md, every rule), plain data, and its value after block reset (70_reset_and_hazards.md R310). -/

namespace Sys2Proof.Machine

/-- The stored fields of I2CCTL (10_state.md R30). The reserved and hardwired bits have no storage (R36). -/
structure Ctl where
  swrst : Bool
  txstt : Bool
  txstp : Bool
  tr : Bool
  ssel : BitVec 2
  sync : Bool
  mode : BitVec 2
  mst : Bool
deriving DecidableEq, Repr

/-- The flags of I2CIFG (10_state.md R43). -/
structure Ifg where
  rxifg : Bool
  txifg : Bool
  nackifg : Bool
deriving DecidableEq, Repr

/-- The hidden phase of the bus controller (10_state.md R44). -/
inductive Phase
  | off
  | idle
  | tx
  | rx
  | hold
deriving DecidableEq, Repr

/-- The error codes of STATUS.ERR (60_exceptions.md R280). Code 7 is reserved and never written (93 U18). -/
inductive Err
  | none
  | illegalCmd
  | badArg
  | uninitCal
  | divZero
  | overflow
  | busTimeout
deriving DecidableEq, Repr

/-- The fields of STATUS (10_state.md R48); `calv` is CALV (R61). -/
structure Status where
  busy : Bool
  done : Bool
  calv : Bool
  ovr : Bool
  err : Err
deriving DecidableEq, Repr

/-- The engine's hidden state while a command runs (10_state.md R53): the command, the values latched at issue (42_transport.md
R180), the position in its microprogram (log entry 13) and the bytes the current read has collected. -/
structure Running where
  cmd : Command
  arg : Word
  oss : BitVec 2
  pos : Nat
  bytes : List Byte
deriving DecidableEq, Repr

/-- A bus event (10_state.md R64). -/
inductive BusEvent
  | start
  | restart
  /-- the address byte: address, R/W (true = read), acknowledged -/
  | addr (a : BitVec 7) (rw ack : Bool)
  /-- data byte sent, acknowledged by the peer -/
  | tx (b : Byte) (ack : Bool)
  /-- data byte received, acknowledged by the master -/
  | rx (b : Byte) (mack : Bool)
  | stopReq
  | stop
  | abort
  /-- the engine waited at least this many microseconds -/
  | convWait (t : Nat)
deriving DecidableEq, Repr

/-- A move the environment has chosen (00_scope.md R11: any enabled step may be taken next; log entry 1). -/
inductive Move
  /-- one host access (R11, 20_memory.md R90) -/
  | access (a : Access)
  /-- the host statement POLL: read until `(value & mask) = v` (30_encoding.md R120; log entry 14) -/
  | poll (off : BitVec 7) (mask v : Word)
  /-- the enabled bus step (41_bus_controller.md R151 to R154) -/
  | bus
  /-- the conversion step (44_measurement.md R220) -/
  | conv
  /-- the timeout step (42_transport.md R192) -/
  | timeout
  /-- whichever step of the block itself is enabled -/
  | auto
  /-- the reset input (70_reset_and_hazards.md R310) -/
  | blockReset
deriving DecidableEq, Repr

/-- The bus peer's answers to come (00_scope.md R5): prepared answers first, free draws after them (log entry 2). -/
structure Peer where
  acks : List Bool
  bytes : List Byte
  draws : Nat
deriving DecidableEq, Repr

/-- The state of the block. The last four fields are the model's own (log entries 1, 2, 3, 7). -/
structure State where
  /-- I2CCTL (R30) -/
  ctl : Ctl
  /-- I2CBRW (R38) -/
  i2cbrw : Word
  /-- I2CRXBUF (R40) -/
  i2crxbuf : Byte
  /-- I2CTXBUF (R41) -/
  i2ctxbuf : Byte
  /-- I2CSA (R42) -/
  i2csa : BitVec 7
  /-- I2CIFG (R43) -/
  ifg : Ifg
  /-- phase (R44) -/
  phase : Phase
  /-- txpending (R45) -/
  txpending : Bool
  /-- CMD (R46) -/
  cmd : Word
  /-- ARG (R47) -/
  arg : Word
  /-- STATUS (R48) -/
  status : Status
  /-- ENG (R53): none when idle -/
  eng : Option Running
  /-- UT (R54) -/
  ut : Word
  /-- UP (R55) -/
  up : Long
  /-- T10 (R56), a two's-complement pattern -/
  t10 : Long
  /-- P (R57), a two's-complement pattern -/
  p : Long
  /-- B5 (R58), a two's-complement pattern -/
  b5 : Long
  /-- CAL (R59), raw patterns -/
  cal : Vector Word Config.nCoef
  /-- RXDATA (R62) -/
  rxdata : Vector Byte Config.rxdataSize
  /-- the bus trace, oldest event first (R63) -/
  trace : List BusEvent
  /-- the values the host has read, oldest first (log entry 7) -/
  reads : List Word
  /-- the environment's moves, next first (log entry 1) -/
  agenda : List Move
  /-- the bus peer's answers (log entry 2) -/
  peer : Peer
  /-- the parameters (log entry 3) -/
  cfg : Config
deriving DecidableEq, Repr

/-- Why the machine stops. The spec gives the block no such event: an error ends a command and is a next state
(60_exceptions.md R289), a NACK is no error (R287), and a stuck engine makes no progress without stopping the machine
(42_transport.md R191). So there is no constructor: the machine never stops with a fault (log entry 15; safe). -/
inductive Fault
deriving DecidableEq, Repr

/-- Why the model gives a step no meaning. -/
inductive Refusal
  /-- Raised by exec for an instruction that has no meaning yet; no arm does so now (safe). -/
  | notModelled (mnemonic : String)
  /-- Raised by a host access that is not 16 bits at an even offset: "A model refuses any other access to the window"
  (20_memory.md R81; safe). -/
  | accessShape
deriving DecidableEq, Repr

/-- The machine right after reset (70_reset_and_hazards.md R310), every register at the value the spec gives; the trace is empty
at the start of a run (10_state.md R63). The model's own fields: log entries 1, 2, 3, 7. -/
def State.reset : State where
  ctl := { swrst := true, txstt := false, txstp := false, tr := false, ssel := 0b00#2, sync := true, mode := 0b00#2, mst := false }
  i2cbrw := 0x0000#16
  i2crxbuf := 0x00#8
  i2ctxbuf := 0x00#8
  i2csa := 0x00#7
  ifg := { rxifg := false, txifg := false, nackifg := false }
  phase := .off
  txpending := false
  cmd := 0x0000#16
  arg := 0x0000#16
  status := { busy := false, done := false, calv := false, ovr := false, err := .none }
  eng := none
  ut := 0x0000#16
  up := 0#32
  t10 := 0#32
  p := 0#32
  b5 := 0#32
  cal := Vector.replicate Config.nCoef 0x0000#16
  rxdata := Vector.replicate Config.rxdataSize 0x00#8
  trace := []
  reads := []
  agenda := []
  peer := { acks := [], bytes := [], draws := 0 }
  cfg := Config.default

end Sys2Proof.Machine
end

