-- ==== Sys2Proof/Machine/Flags.lean ====
section
/-! DEFINITION. The flag, status and control registers as the host reads them (spec 10_state.md R30, R39, R43, R48; 60_exceptions.md R280), and the updates of their flags. -/

namespace Sys2Proof.Machine

/-- I2CCTL as a register: its reserved and hardwired bits read 0 (10_state.md R30, R36). -/
def Ctl.toWord (c : Ctl) : Word :=
  0#4 ++ BitVec.ofBool c.mst ++ c.mode ++ BitVec.ofBool c.sync ++ c.ssel ++ 0#1 ++ BitVec.ofBool c.tr ++ 0#1
    ++ BitVec.ofBool c.txstp ++ BitVec.ofBool c.txstt ++ BitVec.ofBool c.swrst

/-- I2CIFG as a register: bits 0, 1 and 5 (10_state.md R43). -/
def Ifg.toWord (f : Ifg) : Word :=
  0#10 ++ BitVec.ofBool f.nackifg ++ 0#3 ++ BitVec.ofBool f.txifg ++ BitVec.ofBool f.rxifg

/-- The code of an error (60_exceptions.md R280). -/
def Err.code : Err → BitVec 3
  | .none => 0#3
  | .illegalCmd => 1#3
  | .badArg => 2#3
  | .uninitCal => 3#3
  | .divZero => 4#3
  | .overflow => 5#3
  | .busTimeout => 6#3

/-- STATUS as a register (10_state.md R48): BUSY 0, DONE 1, CALV 2, OVR 3, ERR 10:8. -/
def Status.toWord (t : Status) : Word :=
  0#5 ++ t.err.code ++ 0#4 ++ BitVec.ofBool t.ovr ++ BitVec.ofBool t.calv ++ BitVec.ofBool t.done ++ BitVec.ofBool t.busy

/-- Whether this master owns the bus: phase TX, RX or HOLD (10_state.md R39). -/
def Phase.owns : Phase → Bool
  | .off => false
  | .idle => false
  | .tx => true
  | .rx => true
  | .hold => true

/-- I2CSTAT: bit 4 is BBUSY, every other bit 0 (10_state.md R39). -/
def State.i2cstat (s : State) : Word := 0#11 ++ BitVec.ofBool s.phase.owns ++ 0#4

/-- The controller is configured (10_state.md R35). -/
def State.configured (s : State) : Bool :=
  s.ctl.mst && s.ctl.mode == 0b11#2 && s.ctl.sync && !s.ctl.swrst

/-- Set the flag of one received byte (41_bus_controller.md R153) or clear it (R147). -/
def State.setRxifg (s : State) (b : Bool) : State := { s with ifg := { s.ifg with rxifg := b } }

/-- Set or clear TXIFG. -/
def State.setTxifg (s : State) (b : Bool) : State := { s with ifg := { s.ifg with txifg := b } }

/-- Set NACKIFG (41_bus_controller.md R151, R152). -/
def State.setNackifg (s : State) : State := { s with ifg := { s.ifg with nackifg := true } }

/-- Set or clear TXSTT (10_state.md R32). -/
def State.setTxstt (s : State) (b : Bool) : State := { s with ctl := { s.ctl with txstt := b } }

/-- Set or clear TXSTP (10_state.md R33). -/
def State.setTxstp (s : State) (b : Bool) : State := { s with ctl := { s.ctl with txstp := b } }

/-- Change the phase (10_state.md R44). -/
def State.setPhase (s : State) (ph : Phase) : State := { s with phase := ph }

/-- An ignored CMD write sets STATUS.OVR (60_exceptions.md R292). -/
def State.setOvr (s : State) : State := { s with status := { s.status with ovr := true } }

end Sys2Proof.Machine
end

