-- ==== Sys2Proof/Machine/Operands.lean ====
section
/-! DEFINITION. The operands of commands and of the pipeline: ARG fields, oversampling, byte assembly, coefficient views (spec 10_state.md R47, R60; 30_encoding.md R112, R117; 43_calibration_store.md R211; 44_measurement.md R220 to R224; 45_pipeline.md R240). -/

namespace Sys2Proof.Machine

/-- `ARG.REG`, bits 7:0 (30_encoding.md R112). -/
def argReg (arg : Word) : Byte := arg.extractLsb' 0 8

/-- `ARG.VAL`, bits 15:8, read by WRITE_REG (R112). -/
def argVal (arg : Word) : Byte := arg.extractLsb' 8 8

/-- `ARG.COUNT`, bits 15:8, read by READ_BYTES (R112). -/
def argCount (arg : Word) : Nat := (arg.extractLsb' 8 8).toNat

/-- `CMD.OSS`, bits 5:4 of a command word (30_encoding.md R111). -/
def wordOss (w : Word) : BitVec 2 := w.extractLsb' 4 2

/-- The conversion wait of the temperature cycle in microseconds (44_measurement.md R220). -/
def tempConvTime : Nat := 4500

/-- The conversion wait of the pressure cycle in microseconds, T_P[oss] (44_measurement.md R220). -/
def pressConvTime (oss : BitVec 2) : Nat :=
  match oss.toNat with
  | 0 => 4500
  | 1 => 7500
  | 2 => 13500
  | _ => 25500

/-- Byte `i` of the bytes a read has collected. -/
def byteAt (d : List Byte) (i : Nat) : Byte := d.getD i 0x00#8

/-- `(a : b)`: two bytes most significant first (20_memory.md R86). -/
def pair (hi lo : Byte) : Word := hi ++ lo

/-- The raw temperature of the bytes read, `(d[0] : d[1])` (44_measurement.md R221). -/
def utOf (d : List Byte) : Word := pair (byteAt d 0) (byteAt d 1)

/-- `UPASM(d, oss)`: the 24-bit value shifted right by `8 - oss` (44_measurement.md R224). -/
def upOf (d : List Byte) (oss : BitVec 2) : Long :=
  (0x00#8 ++ byteAt d 0 ++ byteAt d 1 ++ byteAt d 2) >>> (8 - oss.toNat)

/-- The eleven coefficients of the bytes read: coefficient `i` is `(d[2i] : d[2i+1])` (43_calibration_store.md R210, R211). -/
def calOf (d : List Byte) : Vector Word Config.nCoef :=
  let c (i : Nat) : Word := pair (byteAt d (2 * i)) (byteAt d (2 * i + 1))
  #v[c 0, c 1, c 2, c 3, c 4, c 5, c 6, c 7, c 8, c 9, c 10]

/-- Write bytes into RXDATA from index `i` on, leaving the rest (10_state.md R62). -/
def writeBytes : List Byte → Nat → Vector Byte Config.rxdataSize → Vector Byte Config.rxdataSize
  | [], _, v => v
  | b :: bs, i, v => writeBytes bs (i + 1) (v.setIfInBounds i b)

/-! The coefficient views (10_state.md R60, 45_pipeline.md R240): AC4, AC5, AC6 unsigned, the others signed. -/

abbrev Cal := Vector Word Config.nCoef

/-- The raw pattern of coefficient `i`, CAL[i]. -/
def coef (c : Cal) (i : Fin Config.nCoef) : Word := c.get i

def ac1 (c : Cal) : Int := (coef c 0).toInt
def ac2 (c : Cal) : Int := (coef c 1).toInt
def ac3 (c : Cal) : Int := (coef c 2).toInt
def ac4 (c : Cal) : Int := ((coef c 3).toNat : Int)
def ac5 (c : Cal) : Int := ((coef c 4).toNat : Int)
def ac6 (c : Cal) : Int := ((coef c 5).toNat : Int)
def b1 (c : Cal) : Int := (coef c 6).toInt
def b2 (c : Cal) : Int := (coef c 7).toInt
/-- Read into the store but used by no stage (45_pipeline.md R254). -/
def mb (c : Cal) : Int := (coef c 8).toInt
def mc (c : Cal) : Int := (coef c 9).toInt
def md (c : Cal) : Int := (coef c 10).toInt

end Sys2Proof.Machine
end

