-- ==== Sys2Proof/Machine/Ops.lean ====
section
/-! DEFINITION. The named operations every meaning shares: the trace, the register actions of the bus controller, its bus steps, the peer's answers, and the two ends of a command (spec 41_bus_controller.md, 42_transport.md R182, 60_exceptions.md R289). -/

namespace Sys2Proof.Machine

/-- `log(e)`: append an event to the trace (00_scope.md R10). -/
def State.log (s : State) (e : BusEvent) : State := { s with trace := s.trace ++ [e] }

/-! ## The ends of a command -/

/-- Error entry, `raise E` and `finish_error(E)` (60_exceptions.md R289): STATUS reports the error, the engine goes idle, and
nothing else changes. -/
def raise (e : Err) (s : State) : State :=
  { s with status := { s.status with busy := false, done := true, err := e }, eng := none }

/-- Completion, `done` (42_transport.md R182). -/
def done (s : State) : State :=
  { s with status := { s.status with busy := false, done := true, err := .none }, eng := none }

/-! ## Register actions of the bus controller (41_bus_controller.md section 1) -/

/-- The configuration fields of an I2CCTL write (R141). -/
def writeConfig (w : CtlWrite) (s : State) : State :=
  { s with ctl := { s.ctl with
      swrst := w.swrst, tr := w.tr, ssel := w.ssel, sync := w.sync, mode := w.mode, mst := w.mst } }

/-- Append ABORT when this master owns the bus (R142, 70_reset_and_hazards.md R311). -/
def abortIfOwned (s : State) : State := if s.phase.owns then s.log .abort else s

/-- Enter controller reset (R142). -/
def enterReset (s : State) : State :=
  let s := abortIfOwned s
  { s with
    phase := .off
    ctl := { s.ctl with txstt := false, txstp := false }
    ifg := { rxifg := false, txifg := false, nackifg := false }
    txpending := false }

/-- Leave controller reset (R143): the bus is taken to be free, no event. -/
def leaveReset (s : State) : State := s.setPhase .idle

/-- Request START or restart (R144). -/
def requestStart (s : State) : State := if s.ctl.swrst then s else s.setTxstt true

/-- Request STOP (R145). -/
def requestStop (s : State) : State :=
  if s.ctl.swrst then s
  else if s.phase = .idle then s.setTxstp false
  else if s.ctl.txstp then s
  else (s.setTxstp true).log .stopReq

/-- The SWRST transition of an I2CCTL write, by the value SWRST had before (R142, R143). -/
def resetTransition (old new : Bool) (s : State) : State :=
  if new && !old then enterReset s else if !new && old then leaveReset s else s

/-- A write of I2CCTL: configuration, SWRST transition, START request, STOP request, in that order (10_state.md R37, R141). -/
def writeCtl (w : CtlWrite) (s : State) : State :=
  let s1 := resetTransition s.ctl.swrst w.swrst (writeConfig w s)
  let s2 := if w.txstt then requestStart s1 else s1
  if w.txstp then requestStop s2 else s2

/-- The I2CCTL write that leaves the configuration as it is and requests nothing. -/
def Ctl.rewrite (c : Ctl) : CtlWrite :=
  { swrst := c.swrst, txstt := false, txstp := false, tr := c.tr, ssel := c.ssel, sync := c.sync, mode := c.mode, mst := c.mst }

/-- Send byte (R146). -/
def writeTxbuf (b : Byte) (s : State) : State :=
  let s := { s with i2ctxbuf := b }
  if s.ctl.swrst then s else ({ s with txpending := true }).setTxifg false

/-- Take the received byte (R147); `take` says whether the access clears RXIFG: an engine read always, a host read while no
command runs. The value read is I2CRXBUF before it, which the access does not change. -/
def readRxbuf (take : Bool) (s : State) : State := if take then s.setRxifg false else s

/-- Write flags (R148). -/
def writeIfg (rxifg txifg nackifg : Bool) (s : State) : State :=
  if s.ctl.swrst then s else { s with ifg := { rxifg := rxifg, txifg := txifg, nackifg := nackifg } }

/-- Set peer address (R149). -/
def writeSa (a : BitVec 7) (s : State) : State := { s with i2csa := a }

/-- Set clock divisor (R150). -/
def writeBrw (div : Word) (s : State) : State := { s with i2cbrw := div }

/-! ## The bus peer's answers (41_bus_controller.md R158, log entry 2) -/

/-- `oracle.ack()`: the next prepared acknowledge bit, or a free draw. -/
def drawAck (s : State) : Bool × State :=
  match s.peer.acks with
  | a :: rest => (a, { s with peer := { s.peer with acks := rest } })
  | [] => (Config.peerAck s.peer.draws, { s with peer := { s.peer with draws := s.peer.draws + 1 } })

/-- `oracle.byte()`: the next prepared byte, or a free draw. -/
def drawByte (s : State) : Byte × State :=
  match s.peer.bytes with
  | b :: rest => (b, { s with peer := { s.peer with bytes := rest } })
  | [] => (Config.peerByte s.peer.draws, { s with peer := { s.peer with draws := s.peer.draws + 1 } })

/-! ## Bus steps (41_bus_controller.md section 2) -/

/-- P-START is enabled (R151). -/
def startEnabled (s : State) : Bool :=
  s.ctl.txstt && s.configured && !s.ctl.txstp
    && (s.phase == .idle || s.phase == .hold || (s.phase == .tx && !s.txpending))

/-- P-TX is enabled (R152). -/
def txEnabled (s : State) : Bool := s.phase == .tx && s.txpending

/-- P-RX is enabled (R153). -/
def rxEnabled (s : State) : Bool := s.phase == .rx && !s.ifg.rxifg

/-- P-STOP is enabled (R154). -/
def stopEnabled (s : State) : Bool :=
  s.ctl.txstp && (s.phase == .hold || (s.phase == .tx && !s.txpending))

/-- A bus step is enabled (R155). -/
def busEnabled (s : State) : Bool := startEnabled s || txEnabled s || rxEnabled s || stopEnabled s

/-- What P-START does once the peer has answered (R151). -/
def startWith (ack : Bool) (s : State) : State :=
  let s := s.log (if s.phase = .idle then .start else .restart)
  let s := (s.log (.addr s.i2csa (!s.ctl.tr) ack)).setTxstt false
  if ack then
    if s.ctl.tr then (s.setPhase .tx).setTxifg (!s.txpending) else (s.setPhase .rx).setTxifg false
  else ((s.setPhase .hold).setTxifg false).setNackifg

/-- P-START (R151). -/
def pStart (s : State) : State := startWith (drawAck s).1 (drawAck s).2

/-- What P-TX does once the peer has answered (R152). -/
def txWith (ack : Bool) (s : State) : State :=
  let s := { s.log (.tx s.i2ctxbuf ack) with txpending := false }
  if ack then s.setTxifg true else s.setNackifg.setPhase .hold

/-- P-TX (R152). -/
def pTx (s : State) : State := txWith (drawAck s).1 (drawAck s).2

/-- What P-RX does with the byte the peer gives (R153). -/
def rxWith (b : Byte) (s : State) : State :=
  let s := ({ s with i2crxbuf := b }).setRxifg true
  let s := s.log (.rx b (!s.ctl.txstp && !s.ctl.txstt))
  if s.ctl.txstp then ((s.log .stop).setTxstp false).setPhase .idle
  else if s.ctl.txstt then s.setPhase .hold
  else s

/-- P-RX (R153). -/
def pRx (s : State) : State := rxWith (drawByte s).1 (drawByte s).2

/-- P-STOP (R154). -/
def pStop (s : State) : State := (((s.log .stop).setTxstp false).setPhase .idle).setTxifg false

/-! ## Block reset -/

/-- Block reset (70_reset_and_hazards.md R310, R311): ABORT when the bus is owned, then every register at its reset value. The
trace is kept, and so are the model's own fields (log entry 16). -/
def blockReset (s : State) : State :=
  { State.reset with
    trace := (abortIfOwned s).trace, reads := s.reads, agenda := s.agenda, peer := s.peer, cfg := s.cfg }

end Sys2Proof.Machine
end

