-- ==== Sys2Proof/Machine/Pipeline.lean ====
section
/-! DEFINITION. The calibration arithmetic pipeline (spec 45_pipeline.md R241 to R255): pure functions that answer a value or the first error in pseudocode order. -/

namespace Sys2Proof.Machine

/-! ## Primitives (00_scope.md R9, 45_pipeline.md R241) -/

/-- `chk32(x)`: the value when it is a signed 32-bit number, OVERFLOW otherwise. -/
def chk32 (x : Int) : Except Err Int :=
  if -2147483648 ≤ x ∧ x ≤ 2147483647 then .ok x else .error .overflow

/-- `fdiv(a, b)`: floor division, DIV_ZERO when `b = 0`. -/
def fdiv (a b : Int) : Except Err Int := if b = 0 then .error .divZero else .ok (Int.fdiv a b)

/-- `fdiv(a, 2^k)` for a constant divisor, which is never 0. -/
def fdivC (a : Int) (k : Nat) : Int := Int.fdiv a (2 ^ k)

/-- `u32(x)`: an integer modulo 2^32. -/
def u32 (x : Int) : Int := x % 4294967296

/-- `udiv(a, b)`: division of non-negative integers. -/
def udiv (a b : Int) : Int := a / b

/-! ## Temperature -/

/-- Stage B5INT(UT) (R242). -/
def b5int (c : Cal) (ut : Int) : Except Err Int := do
  let n1 ← chk32 ((← chk32 (ut - ac6 c)) * ac5 c)
  let x1 := fdivC n1 15
  let d ← chk32 (x1 + md c)
  let n2 ← chk32 (mc c * 2048)
  let x2 ← fdiv n2 d
  chk32 (x1 + x2)

/-- TEMP under `TEMP_ARITH = REAL` (R243): exact rationals, only the result is checked. -/
def tempReal (c : Cal) (ut : Int) : Except Err Int :=
  let x1 : Rat := ((ut - ac6 c) * ac5 c : Int) / 32768
  let d : Rat := x1 + (md c : Int)
  if d = 0 then .error .divZero
  else
    let x2 : Rat := (mc c * 2048 : Int) / d
    let b5 : Rat := x1 + x2
    chk32 ((b5 + 8) / 16).floor

/-- The nearest integer, ties to even. -/
def roundHalfEven (x : Rat) : Int :=
  let f := x.floor
  let r := x - f
  if r < 1 / 2 then f
  else if 1 / 2 < r then f + 1
  else if f % 2 = 0 then f else f + 1

/-- `2^e` for an integer exponent. -/
def twoPow (e : Int) : Rat := if 0 ≤ e then (2 ^ e.toNat : Nat) else 1 / ((2 ^ (-e).toNat : Nat) : Rat)

/-- The exponent of the leading bit of a nonzero rational: `2^e ≤ |x| < 2^(e+1)`. -/
def leadExp (x : Rat) : Int :=
  let e : Int := (x.num.natAbs.log2 : Int) - (x.den.log2 : Int)
  if twoPow e ≤ |x| then e else e - 1

/-- `fl(x)`: a rational rounded to nearest even with `prec` significand bits (R243: 24 for binary32, 53 for binary64). The
exponent is unbounded: no operand of the temperature formula is subnormal or overflows (DEDUCED, log entry 11). -/
def fl (prec : Nat) (x : Rat) : Rat :=
  if x = 0 then 0
  else
    let q := twoPow (leadExp x - (prec : Int) + 1)
    roundHalfEven (x / q) * q

/-- TEMP under `TEMP_ARITH = BINARY32` or `BINARY64` (R243). -/
def tempBinary (prec : Nat) (c : Cal) (ut : Int) : Except Err Int :=
  let a := fl prec ((ut - ac6 c : Int) : Rat)
  let b := fl prec (a * (ac5 c : Int))
  let x1 := fl prec (b / 32768)
  let d := fl prec (x1 + (md c : Int))
  if d = 0 then .error .divZero
  else
    let x2 := fl prec (fl prec ((mc c : Int) * 2048) / d)
    let b5 := fl prec (x1 + x2)
    chk32 (fl prec (fl prec (b5 + 8) / 16)).floor

/-- TEMP under `TEMP_ARITH = INT` (R243). -/
def tempInt (c : Cal) (ut : Int) : Except Err Int := do
  let b5 ← b5int c ut
  let n ← chk32 (b5 + 8)
  chk32 (fdivC n 4)

/-- Stage TEMP(UT) under the arithmetic the parameter selects (R243). -/
def temp (m : TempArith) (c : Cal) (ut : Int) : Except Err Int :=
  match m with
  | .real => tempReal c ut
  | .binary32 => tempBinary 24 c ut
  | .binary64 => tempBinary 53 c ut
  | .int => tempInt c ut

/-! ## Pressure -/

/-- Stage P1 (R245): B6 and S. -/
def stageP1 (b5 : Int) : Except Err (Int × Int) := do
  let b6 ← chk32 (b5 - 4000)
  let q ← chk32 (b6 * b6)
  return (b6, fdivC q 12)

/-- Stage P2 (R246): B3. -/
def stageP2 (c : Cal) (oss : Nat) (b6 s : Int) : Except Err Int := do
  let x1 := fdivC (← chk32 (b2 c * s)) 11
  let x2 := fdivC (← chk32 (ac2 c * b6)) 11
  let x3 ← chk32 (x1 + x2)
  let a ← chk32 (ac1 c * 4)
  let t ← chk32 ((← chk32 (a + x3)) * 2 ^ oss)
  return fdivC (← chk32 (t + 2)) 2

/-- Stage P3 (R247): B4. -/
def stageP3 (c : Cal) (b6 s : Int) : Except Err Int := do
  let x1 := fdivC (← chk32 (ac3 c * b6)) 13
  let x2 := fdivC (← chk32 (b1 c * s)) 16
  let x3 := fdivC (← chk32 ((← chk32 (x1 + x2)) + 2)) 2
  let b4 := u32 (ac4 c * u32 (x3 + 32768)) / 32768
  if b4 = 0 then throw .divZero else return b4

/-- Stage P4 (R248): the uncorrected pressure. -/
def stageP4 (up : Int) (oss : Nat) (b3 b4 : Int) : Except Err Int :=
  let b7 := u32 (u32 (up - b3) * ((50000 >>> oss : Nat) : Int))
  let p0 := if b7 < 0x80000000 then udiv (b7 * 2) b4 else u32 (udiv b7 b4 * 2)
  if p0 > 2147483647 then .error .overflow else .ok p0

/-- Stage P5 (R249): the final correction. -/
def stageP5 (p0 : Int) : Except Err Int := do
  let q := fdivC p0 8
  let x1 := fdivC (← chk32 ((← chk32 (q * q)) * 3038)) 16
  let x2 := fdivC (← chk32 (-7357 * p0)) 16
  let y ← chk32 ((← chk32 (x1 + x2)) + 3791)
  chk32 (p0 + fdivC y 4)

/-- Stage PRESS(UP, UT, oss) (R250): B5 and the pressure. -/
def press (c : Cal) (up ut : Int) (oss : Nat) : Except Err (Int × Int) := do
  let b5 ← b5int c ut
  let (b6, s) ← stageP1 b5
  let b3 ← stageP2 c oss b6 s
  let b4 ← stageP3 c b6 s
  let p0 ← stageP4 up oss b3 b4
  let p ← stageP5 p0
  return (b5, p)

end Sys2Proof.Machine
end

