-- ==== Sys2Proof/Machine/Engine.lean ====
section
/-! DEFINITION. The engine: microprograms, action blocks and waits, command issue, the conversion and timeout steps (spec 42_transport.md R180 to R192, 43_calibration_store.md R210, 44_measurement.md R220 to R225). -/

namespace Sys2Proof.Machine

/-- The condition of a flag wait (42_transport.md R181, R184, R186). -/
inductive FlagWait
  | txifgSet
  | rxifgSet
  | txsttClear
  | txstpClear
deriving DecidableEq, Repr

/-- An item of a microprogram (42_transport.md R181): an action of an action block, a wait, or the end. -/
inductive Micro
  /-- engine write of I2CCTL -/
  | writeCtl (v : Word)
  /-- engine write of I2CBRW with BUS_CLK_DIV -/
  | writeBrw
  /-- engine write of I2CSA with DEV_ADDR -/
  | writeSa
  /-- engine write of I2CIFG with 0 -/
  | clearFlags
  /-- one engine write of I2CCTL that sets TR and TXSTT, the configuration unchanged -/
  | start (tr : Bool)
  /-- request STOP -/
  | stop
  /-- engine write of I2CTXBUF -/
  | send (b : Byte)
  /-- forget the local bytes: a new read begins -/
  | newRead
  /-- engine read of I2CRXBUF into the local bytes -/
  | take
  /-- RXDATA[0..n-1] <- d[0..n-1] -/
  | storeRx
  /-- CAL[0..10] from the local bytes, CALV <- 1 -/
  | storeCal
  /-- UT from the local bytes -/
  | storeUt
  /-- UP from the local bytes -/
  | storeUp
  /-- T10 <- TEMP(UT), which may raise -/
  | calcTemp
  /-- (B5, P) <- PRESS(UP, UT, oss), which may raise -/
  | calcPress
  /-- wait(c) -/
  | wait (c : FlagWait)
  /-- conv_wait(t) -/
  | convWait (t : Nat)
  /-- done -/
  | finish
deriving DecidableEq, Repr

/-! ## Microprograms -/

/-- Subroutine WR(r, v) (42_transport.md R184), as its pseudocode stands. Begun while the host has left the controller in phase TX with a
byte queued, its first wait on TXIFG passes on the acknowledge of that byte, before its START, and its STOP is not logged as requested
where the host had requested one; R194, R188 and R193 say otherwise. The pseudocode is followed (DEDUCED, log entry 19). -/
def wrProgram (r v : Byte) : List Micro :=
  [.clearFlags, .start true, .wait .txifgSet, .send r, .wait .txifgSet, .send v, .wait .txifgSet, .stop, .wait .txstpClear]

/-- The receiving loop of RD: byte `i` of `n` (42_transport.md R186). -/
def rdByte (n i : Nat) : List Micro :=
  [.wait .rxifgSet, .take] ++ if i + 2 = n then [.stop] else []

/-- Subroutine RD(r, n) (42_transport.md R186), as its pseudocode stands. Issued while the host has left the controller in phase RX,
its first wait on RXIFG passes on the byte P-RX took there, so for n = 1 or 2 the closing STOP is not its last event; R188 and R189 speak
of every completed RD. The pseudocode is followed (DEDUCED, log entry 17; for phase TX with a byte queued, log entry 19). -/
def rdProgram (r : Byte) (n : Nat) : List Micro :=
  [.newRead, .clearFlags, .start true, .wait .txifgSet, .send r, .wait .txifgSet, .start false]
    ++ (if n = 1 then [.wait .txsttClear, .stop] else [])
    ++ (List.range n).flatMap (rdByte n)
    ++ [.storeRx]

/-- Cycle TCYCLE (44_measurement.md R221). -/
def tcycle (cfg : Config) : List Micro :=
  wrProgram Config.regCtrl tempControlByte ++ [.convWait tempConvTime] ++ rdProgram cfg.regOut 2 ++ [.storeUt]

/-- Cycle PCYCLE(oss) (44_measurement.md R223). -/
def pcycle (cfg : Config) (oss : BitVec 2) : List Micro :=
  wrProgram Config.regCtrl (pressControlByte oss) ++ [.convWait (pressConvTime oss)] ++ rdProgram cfg.regOut 3 ++ [.storeUp]

/-- The microprogram of a command with its latched operands (42_transport.md R183, R185, R187; 43 R210; 44 R222, R225; 45 R244,
R251). -/
def program (cfg : Config) (c : Command) (arg : Word) (oss : BitVec 2) : List Micro :=
  match c with
  | .init => [.writeCtl 0x0001#16, .writeCtl 0x0F81#16, .writeBrw, .writeSa, .writeCtl 0x0F80#16, .finish]
  | .writeReg => wrProgram (argReg arg) (argVal arg) ++ [.finish]
  | .readBytes => rdProgram (argReg arg) (argCount arg) ++ [.finish]
  | .readCal => rdProgram cfg.regCal Config.calBytes ++ [.storeCal, .finish]
  | .measureT => tcycle cfg ++ [.calcTemp, .finish]
  | .measureP => pcycle cfg oss ++ tcycle cfg ++ [.calcPress, .finish]
  | .calcT => [.calcTemp, .finish]
  | .calcP => [.calcPress, .finish]

/-- What is left of the running command's microprogram, from ENG.pos on; nothing when idle. -/
def remaining (s : State) : List Micro :=
  match s.eng with
  | none => []
  | some r => (program s.cfg r.cmd r.arg r.oss).drop r.pos

/-! ## Running -/

/-- The condition of a flag wait holds. -/
def FlagWait.holds (c : FlagWait) (s : State) : Bool :=
  match c with
  | .txifgSet => s.ifg.txifg
  | .rxifgSet => s.ifg.rxifg
  | .txsttClear => !s.ctl.txstt
  | .txstpClear => !s.ctl.txstp

/-- ENG.pos moves past one item. -/
def advance (s : State) : State := { s with eng := s.eng.map fun r => { r with pos := r.pos + 1 } }

/-- The bytes the current read has collected. -/
def localBytes (s : State) : List Byte :=
  match s.eng with
  | none => []
  | some r => r.bytes

/-- Replace the collected bytes. -/
def setLocalBytes (d : List Byte) (s : State) : State := { s with eng := s.eng.map fun r => { r with bytes := d } }

/-- ENG.oss. -/
def engOss (s : State) : BitVec 2 :=
  match s.eng with
  | none => 0#2
  | some r => r.oss

/-- One action of an action block (42_transport.md R181), an engine access that the busy lock never stops (20_memory.md R89), or
the error it raises. A wait or the end is no action and changes nothing here. -/
def act (m : Micro) (s : State) : Except Err State :=
  match m with
  | .writeCtl v => .ok (Machine.writeCtl (decodeCtlWrite v) s)
  | .writeBrw => .ok (Machine.writeBrw Config.busClkDiv s)
  | .writeSa => .ok (Machine.writeSa s.cfg.devAddr s)
  | .clearFlags => .ok (writeIfg false false false s)
  | .start tr => .ok (Machine.writeCtl { s.ctl.rewrite with tr := tr, txstt := true } s)
  | .stop => .ok (requestStop s)
  | .send b => .ok (writeTxbuf b s)
  | .newRead => .ok (setLocalBytes [] s)
  | .take => .ok (setLocalBytes (localBytes s ++ [s.i2crxbuf]) (readRxbuf true s))
  | .storeRx => .ok { s with rxdata := writeBytes (localBytes s) 0 s.rxdata }
  | .storeCal => .ok { s with cal := calOf (localBytes s), status := { s.status with calv := true } }
  | .storeUt => .ok { s with ut := utOf (localBytes s) }
  | .storeUp => .ok { s with up := upOf (localBytes s) (engOss s) }
  | .calcTemp =>
    match temp s.cfg.tempArith s.cal (s.ut.toNat : Int) with
    | .ok t => .ok { s with t10 := BitVec.ofInt 32 t }
    | .error e => .error e
  | .calcPress =>
    match press s.cal (s.up.toNat : Int) (s.ut.toNat : Int) (engOss s).toNat with
    | .ok (b, q) => .ok { s with b5 := BitVec.ofInt 32 b, p := BitVec.ofInt 32 q }
    | .error e => .error e
  | .wait _ => .ok s
  | .convWait _ => .ok s
  | .finish => .ok s

/-- Run a microprogram until a wait whose condition does not hold, a conversion wait, an error or the end: the engine reacts in
zero time, so a wait whose condition holds is passed in the same step (42_transport.md R181, R182; 60_exceptions.md R289). -/
def runMicro : List Micro → State → State
  | [], s => s
  | .wait c :: rest, s => if c.holds s then runMicro rest (advance s) else s
  | .convWait _ :: _, s => s
  | .finish :: _, s => done s
  | m :: rest, s =>
    match act m s with
    | .ok s' => runMicro rest (advance s')
    | .error e => raise e s

/-- Re-test the engine's pending wait and run on, after a bus step or at issue (42_transport.md R181, 41_bus_controller.md R140). -/
def resume (s : State) : State := runMicro (remaining s) s

/-! ## Issue -/

/-- The checks at issue after the command word has decoded, in order (42_transport.md R180; 60_exceptions.md R282, R283). -/
def refusedAtIssue (c : Command) (s : State) : Option Err :=
  if c = .readBytes ∧ ¬(1 ≤ argCount s.arg ∧ argCount s.arg ≤ Config.rxdataSize) then some .badArg
  else if (c = .measureT ∨ c = .measureP ∨ c = .calcT ∨ c = .calcP) ∧ s.status.calv = false then some .uninitCal
  else none

/-- The first lines of issue: CMD holds the word; OVR, DONE and ERR are cleared (42_transport.md R180). -/
def acceptWord (w : Word) (s : State) : State :=
  { s with cmd := w, status := { s.status with ovr := false, done := false, err := .none } }

/-- The engine takes a command: its operands are latched and BUSY is set (42_transport.md R180). -/
def takeCommand (w : Word) (c : Command) (s : State) : State :=
  { s with
    eng := some { cmd := c, arg := s.arg, oss := wordOss w, pos := 0, bytes := [] }
    status := { s.status with busy := true } }

/-- A host write of a legal command word to CMD (42_transport.md R180; ignored with OVR while busy, 60_exceptions.md R292). -/
def issue (w : Word) (c : Command) (s : State) : State :=
  if s.status.busy then s.setOvr
  else
    match refusedAtIssue c s with
    | some e => raise e (acceptWord w s)
    | none => resume (takeCommand w c (acceptWord w s))

/-- A host write of an illegal command word to CMD (60_exceptions.md R281). -/
def issueIllegal (w : Word) (s : State) : State :=
  if s.status.busy then s.setOvr else raise .illegalCmd (acceptWord w s)

/-! ## Steps of the engine alone -/

/-- The conversion step is enabled: the engine is at a conversion wait (44_measurement.md R220). -/
def convEnabled (s : State) : Bool :=
  match remaining s with
  | .convWait _ :: _ => true
  | _ => false

/-- The conversion step (44_measurement.md R220): log the wait and run the next action block. Nothing when not enabled. -/
def convStep (s : State) : State :=
  match remaining s with
  | .convWait t :: _ => resume (advance (s.log (.convWait t)))
  | _ => s

/-- The engine is stuck: at a flag wait whose condition is false, with no bus step enabled (42_transport.md R190). -/
def stuck (s : State) : Bool :=
  match remaining s with
  | .wait c :: _ => !c.holds s && !busEnabled s
  | _ => false

/-- The timeout step is enabled: stuck, under `TIMEOUT_POLICY = TIMEOUT` (42_transport.md R192). -/
def timeoutEnabled (s : State) : Bool := decide (s.cfg.policy = .timeout) && stuck s

/-- What the timeout step does (42_transport.md R192). On a bus that is owned while the controller is not configured it requests the STOP
too, as this pseudocode stands; R190 and R193 give phase IDLE or OFF and no event there (DEDUCED, log entry 20). -/
def timeoutEffect (s : State) : State :=
  let s := s.setTxstt false
  raise .busTimeout (if s.phase.owns then requestStop s else s)

/-- The timeout step (42_transport.md R192). Nothing when not enabled. -/
def timeoutStep (s : State) : State := if timeoutEnabled s then timeoutEffect s else s

end Sys2Proof.Machine
end

