-- ==== Sys2Proof/Machine/BusByte.lean ====
section
/-! DEFINITION. The meanings of the bytes the block sends on the bus: the address byte (spec 30_encoding.md R118, format F-ADDR, sent by P-START) and the sensor command byte (R116, format F-CTRL, sent by P-TX). -/

namespace Sys2Proof.Machine

/-- The address byte P-START sends: I2CSA and NOT TR (30_encoding.md R118, 41_bus_controller.md R151). -/
def outgoingAddress (s : State) : Byte := addressByte s.i2csa (!s.ctl.tr)

/-- P-START, with the action block it releases (00_scope.md R11), when it is enabled and this is the byte it sends; no effect
otherwise (log entry 9). -/
def sendAddress (b : Byte) (s : State) : State :=
  if startEnabled s && outgoingAddress s == b then resume (pStart s) else s

/-- P-TX, with the action block it releases (00_scope.md R11), when it is enabled and this is the byte it sends; no effect otherwise
(log entry 9). -/
def sendData (b : Byte) (s : State) : State :=
  if txEnabled s && s.i2ctxbuf == b then resume (pTx s) else s

/-- The events of the trace that stand for something on the wires: not STOP_REQ, not CONV_WAIT (10_state.md R64). -/
def BusEvent.onWire : BusEvent → Bool
  | .stopReq => false
  | .convWait _ => false
  | _ => true

/-- The next data byte is the data byte of a write to the sensor register REG_CTRL: the last two wire events are an acknowledged
write address and the acknowledged register byte REG_CTRL (30_encoding.md R116, 42_transport.md R184; log entry 9). -/
def controlByteDue (s : State) : Bool :=
  match s.trace.reverse.filter BusEvent.onWire with
  | .tx r true :: .addr _ false true :: _ => r == Config.regCtrl
  | _ => false

/-- CTRL_TEMP (30_encoding.md R116). -/
def execCtrlTemp (s : State) : Host.Outcome State Fault Refusal := .next (sendData tempControlByte s)

/-- CTRL_PRESS (30_encoding.md R116). -/
def execCtrlPress (oss : BitVec 2) (s : State) : Host.Outcome State Fault Refusal :=
  .next (sendData (pressControlByte oss) s)

/-- ADDR_WRITE (30_encoding.md R118). -/
def execAddrWrite (a : BitVec 7) (s : State) : Host.Outcome State Fault Refusal := .next (sendAddress (addressByte a false) s)

/-- ADDR_READ (30_encoding.md R118). -/
def execAddrRead (a : BitVec 7) (s : State) : Host.Outcome State Fault Refusal := .next (sendAddress (addressByte a true) s)

end Sys2Proof.Machine
end

