-- ==== Sys2Proof/Machine/CommandWord.lean ====
section
/-! DEFINITION. The meanings of the command words (spec 30_encoding.md R113, format F-CMD): a host write of CMD issues the command (42_transport.md R180). CALC_T, CALC_P and INIT complete in that step; the others run to their first wait, and their later action blocks run in the bus and conversion steps that release them (R181). -/

namespace Sys2Proof.Machine

/-- INIT (42_transport.md R183). -/
def execInit (oss : BitVec 2) (s : State) : Host.Outcome State Fault Refusal :=
  .next (issue (commandWord 0x1#4 oss) .init s)

/-- WRITE_REG (42_transport.md R185). -/
def execWriteReg (oss : BitVec 2) (s : State) : Host.Outcome State Fault Refusal :=
  .next (issue (commandWord 0x2#4 oss) .writeReg s)

/-- READ_BYTES (42_transport.md R187). -/
def execReadBytes (oss : BitVec 2) (s : State) : Host.Outcome State Fault Refusal :=
  .next (issue (commandWord 0x3#4 oss) .readBytes s)

/-- READ_CAL (43_calibration_store.md R210). -/
def execReadCal (oss : BitVec 2) (s : State) : Host.Outcome State Fault Refusal :=
  .next (issue (commandWord 0x4#4 oss) .readCal s)

/-- MEASURE_T (44_measurement.md R222). -/
def execMeasureT (oss : BitVec 2) (s : State) : Host.Outcome State Fault Refusal :=
  .next (issue (commandWord 0x5#4 oss) .measureT s)

/-- MEASURE_P (44_measurement.md R225). -/
def execMeasureP (oss : BitVec 2) (s : State) : Host.Outcome State Fault Refusal :=
  .next (issue (commandWord 0x6#4 oss) .measureP s)

/-- CALC_T (45_pipeline.md R244). -/
def execCalcT (oss : BitVec 2) (s : State) : Host.Outcome State Fault Refusal :=
  .next (issue (commandWord 0x7#4 oss) .calcT s)

/-- CALC_P (45_pipeline.md R251). -/
def execCalcP (oss : BitVec 2) (s : State) : Host.Outcome State Fault Refusal :=
  .next (issue (commandWord 0x8#4 oss) .calcP s)

end Sys2Proof.Machine
end

