-- ==== Sys2Proof/Machine/Window.lean ====
section
/-! DEFINITION. The host register window (spec 20_memory.md R82 to R89): what a read of each offset returns, and the accesses that have no row of the opcode table. -/

namespace Sys2Proof.Machine

/-- The low half of a 32-bit value (20_memory.md R82). -/
def lo (v : Long) : Word := v.extractLsb' 0 16

/-- The high half of a 32-bit value (20_memory.md R82). -/
def hi (v : Long) : Word := v.extractLsb' 16 16

/-- `RXDk = RXDATA[2k+1] : RXDATA[2k]` (10_state.md R62, 20_memory.md R84). -/
def rxd (v : Vector Byte Config.rxdataSize) (k : Nat) : Word :=
  (v.toList.getD (2 * k + 1) 0x00#8) ++ (v.toList.getD (2 * k) 0x00#8)

/-- What a 16-bit read of the register at an even offset returns (20_memory.md R84, R85). Reserved offsets read 0. -/
def readReg (off : BitVec 7) (s : State) : Word :=
  let n := off.toNat
  if n = 0x00 then s.ctl.toWord
  else if n = 0x02 then s.i2cbrw
  else if n = 0x04 then s.i2cstat
  else if n = 0x06 then s.i2crxbuf.setWidth 16
  else if n = 0x08 then s.i2ctxbuf.setWidth 16
  else if n = 0x0A then s.i2csa.setWidth 16
  else if n = 0x0C then s.ifg.toWord
  else if n = 0x0E then s.arg
  else if n = 0x10 then s.cmd
  else if n = 0x12 then s.status.toWord
  else if n = 0x14 then s.ut
  else if n = 0x16 then lo s.up
  else if n = 0x18 then hi s.up
  else if n = 0x1A then lo s.t10
  else if n = 0x1C then hi s.t10
  else if n = 0x1E then lo s.p
  else if n = 0x20 then hi s.p
  else if n = 0x22 then lo s.b5
  else if n = 0x24 then hi s.b5
  else if 0x28 ≤ n ∧ n ≤ 0x3C then s.cal.toList.getD ((n - 0x28) / 2) 0x0000#16
  else if 0x40 ≤ n ∧ n ≤ 0x5E then rxd s.rxdata ((n - 0x40) / 2)
  else 0x0000#16

/-- The host takes note of a value it has read (log entry 7). -/
def noteRead (v : Word) (s : State) : State := { s with reads := s.reads ++ [v] }

/-- A host write goes through only while no command runs; otherwise it is ignored (20_memory.md R89). -/
def hostWrite (f : State → State) (s : State) : State := if s.status.busy then s else f s

/-- The store of a host write to a register that has no row: ARG, UT, UP_LO, UP_HI are stored; RO registers and reserved offsets
ignore it (20_memory.md R82, R84, R85). -/
def storeData (off : BitVec 7) (v : Word) (s : State) : State :=
  let n := off.toNat
  if n = 0x0E then { s with arg := v }
  else if n = 0x14 then { s with ut := v }
  else if n = 0x16 then { s with up := hi s.up ++ v }
  else if n = 0x18 then { s with up := v ++ lo s.up }
  else s

/-- A host access that has no row of the opcode table: a read returns the register, a write stores data (20_memory.md R84, R87,
R89). -/
def plainAccess (a : Access) (s : State) : State :=
  match a with
  | .read _ off => noteRead (readReg off s) s
  | .write _ off v => hostWrite (storeData off v) s

end Sys2Proof.Machine
end

