-- ==== Sys2Proof/Machine/RegAction.lean ====
section
/-! DEFINITION. The meanings of the bus controller's register actions as host accesses (spec 41_bus_controller.md R141 to R150, format F-REGACT). Writes are subject to the busy lock (20_memory.md R89). -/

namespace Sys2Proof.Machine

/-- CTL_CONFIG (R141): the whole write of I2CCTL (10_state.md R37). -/
def execCtlConfig (w : CtlWrite) (s : State) : Host.Outcome State Fault Refusal := .next (hostWrite (writeCtl w) s)

/-- CTL_ENTER_RESET (R142): the whole write of I2CCTL (10_state.md R37), with bit 0 = 1. -/
def execCtlEnterReset (w : CtlWrite) (s : State) : Host.Outcome State Fault Refusal := .next (hostWrite (writeCtl w) s)

/-- CTL_LEAVE_RESET (R143): the whole write of I2CCTL (10_state.md R37), with bit 0 = 0. -/
def execCtlLeaveReset (w : CtlWrite) (s : State) : Host.Outcome State Fault Refusal := .next (hostWrite (writeCtl w) s)

/-- CTL_START (R144): the whole write of I2CCTL (10_state.md R37), with bit 1 = 1. -/
def execCtlStart (w : CtlWrite) (s : State) : Host.Outcome State Fault Refusal := .next (hostWrite (writeCtl w) s)

/-- CTL_STOP (R145): the whole write of I2CCTL (10_state.md R37), with bit 2 = 1. -/
def execCtlStop (w : CtlWrite) (s : State) : Host.Outcome State Fault Refusal := .next (hostWrite (writeCtl w) s)

/-- TX_BYTE (R146). -/
def execTxByte (b : Byte) (s : State) : Host.Outcome State Fault Refusal := .next (hostWrite (writeTxbuf b) s)

/-- RX_BYTE (R147): returns I2CRXBUF, and clears RXIFG only while no command runs. -/
def execRxByte (s : State) : Host.Outcome State Fault Refusal :=
  .next (noteRead (readReg offI2crxbuf s) (readRxbuf (!s.status.busy) s))

/-- IFG_WRITE (R148). -/
def execIfgWrite (rxifg txifg nackifg : Bool) (s : State) : Host.Outcome State Fault Refusal :=
  .next (hostWrite (writeIfg rxifg txifg nackifg) s)

/-- SA_WRITE (R149). -/
def execSaWrite (a : BitVec 7) (s : State) : Host.Outcome State Fault Refusal := .next (hostWrite (writeSa a) s)

/-- BRW_WRITE (R150). -/
def execBrwWrite (div : Word) (s : State) : Host.Outcome State Fault Refusal := .next (hostWrite (writeBrw div) s)

end Sys2Proof.Machine
end

