-- ==== Sys2Proof/Machine/Dispatch.lean ====
section
/-! DEFINITION. The dispatch: one arm per row of spec/opcode_table.json. -/

namespace Sys2Proof.Machine

def exec (i : Instr) (s : State) : Host.Outcome State Fault Refusal :=
  match i with
  -- F-CMD
  | .init oss => Sys2Proof.Machine.execInit oss s
  | .writeReg oss => Sys2Proof.Machine.execWriteReg oss s
  | .readBytes oss => Sys2Proof.Machine.execReadBytes oss s
  | .readCal oss => Sys2Proof.Machine.execReadCal oss s
  | .measureT oss => Sys2Proof.Machine.execMeasureT oss s
  | .measureP oss => Sys2Proof.Machine.execMeasureP oss s
  | .calcT oss => Sys2Proof.Machine.execCalcT oss s
  | .calcP oss => Sys2Proof.Machine.execCalcP oss s
  -- F-CTRL
  | .ctrlTemp => Sys2Proof.Machine.execCtrlTemp s
  | .ctrlPress oss => Sys2Proof.Machine.execCtrlPress oss s
  -- F-ADDR
  | .addrWrite a => Sys2Proof.Machine.execAddrWrite a s
  | .addrRead a => Sys2Proof.Machine.execAddrRead a s
  -- F-REGACT
  | .ctlConfig w => Sys2Proof.Machine.execCtlConfig w s
  | .ctlEnterReset w => Sys2Proof.Machine.execCtlEnterReset w s
  | .ctlLeaveReset w => Sys2Proof.Machine.execCtlLeaveReset w s
  | .ctlStart w => Sys2Proof.Machine.execCtlStart w s
  | .ctlStop w => Sys2Proof.Machine.execCtlStop w s
  | .txByte b => Sys2Proof.Machine.execTxByte b s
  | .rxByte => Sys2Proof.Machine.execRxByte s
  | .ifgWrite rxifg txifg nackifg => Sys2Proof.Machine.execIfgWrite rxifg txifg nackifg s
  | .saWrite a => Sys2Proof.Machine.execSaWrite a s
  | .brwWrite div => Sys2Proof.Machine.execBrwWrite div s

end Sys2Proof.Machine
end

