-- ==== Sys2Proof/Machine/Agents.lean ====
section
/-! DEFINITION. The atomic steps of the agents (spec 00_scope.md R5, R11): a host access, a bus step, an engine step, block reset, and what happens when the environment has chosen no move. -/

namespace Sys2Proof.Machine

/-- One host access (20_memory.md R90): the instruction it decodes to is executed; an illegal command word ends with ILLEGAL_CMD
(60_exceptions.md R281); an access without a row reads or stores; an access of another shape is refused (20_memory.md R81). -/
def hostAccess (a : Access) (s : State) : Host.Outcome State Fault Refusal :=
  match decode s.ctl.swrst (.host a) with
  | .ok i => exec i s
  | .error (.illegalCommand w) => .next (issueIllegal w s)
  | .error .plainAccess => .next (plainAccess a s)
  | .error (.notControl _) => .next s
  | .error .accessShape => .refused .accessShape

/-- The instruction of the byte the bus controller is about to send, if that byte is one: the address byte of P-START, or the
sensor command byte of P-TX (30_encoding.md R116, R118). -/
def busInstr (s : State) : Option Instr :=
  let d :=
    if startEnabled s then decode s.ctl.swrst (.address (outgoingAddress s))
    else if txEnabled s && controlByteDue s then decode s.ctl.swrst (.control s.i2ctxbuf)
    else .error .plainAccess
  match d with
  | .ok i => some i
  | .error _ => none

/-- A bus step that sends no instruction byte: P-TX of another byte, P-RX, P-STOP, with the action block it releases
(41_bus_controller.md R140). No effect when none is enabled. -/
def plainBusStep (s : State) : State :=
  if txEnabled s then resume (pTx s)
  else if rxEnabled s then resume (pRx s)
  else if stopEnabled s then resume (pStop s)
  else s

/-- The enabled bus step (41_bus_controller.md R151 to R155); no effect when none is enabled (log entry 4). -/
def busStep (s : State) : Host.Outcome State Fault Refusal :=
  match busInstr s with
  | some i => exec i s
  | none => .next (plainBusStep s)

/-- The block's own enabled step: a bus step, else the conversion step, else the timeout step, else nothing happens (42_transport.md
R191, 70_reset_and_hazards.md R323; log entries 5 and 6). -/
def autoStep (s : State) : Host.Outcome State Fault Refusal :=
  if busEnabled s then busStep s
  else if convEnabled s then .next (convStep s)
  else .next (timeoutStep s)

/-- The host statement POLL (30_encoding.md R120): one read; while the value does not match, the block takes a step of its own and
the read is repeated (log entry 14). -/
def pollStep (off : BitVec 7) (mask v : Word) (s : State) : Host.Outcome State Fault Refusal :=
  match hostAccess (.read 2 off) s with
  | .next s' =>
    if readReg off s &&& mask = v then .next s'
    else .next { s' with agenda := .auto :: .poll off mask v :: s'.agenda }
  | .fault r => .fault r
  | .refused r => .refused r

/-- One move of the environment. -/
def move (m : Move) (s : State) : Host.Outcome State Fault Refusal :=
  match m with
  | .access a => hostAccess a s
  | .poll off mask v => pollStep off mask v s
  | .bus => busStep s
  | .conv => .next (convStep s)
  | .timeout => .next (timeoutStep s)
  | .auto => autoStep s
  | .blockReset => .next (blockReset s)

/-- The next move of the agenda, or the block's own step when the agenda is empty (log entries 1 and 5). -/
def nextMove (s : State) : Host.Outcome State Fault Refusal :=
  match s.agenda with
  | [] => autoStep s
  | m :: rest => move m { s with agenda := rest }

/-- The state in which P-START is enabled and sends this address byte (41_bus_controller.md R151). -/
def readyForAddress (b : Byte) (s : State) : State :=
  { s with
    ctl := { s.ctl with
      swrst := false, txstt := true, txstp := false, tr := !b.getLsbD 0, sync := true, mode := 0b11#2, mst := true }
    i2csa := b.extractLsb' 1 7
    phase := .idle
    agenda := .bus :: s.agenda
    peer := { s.peer with acks := true :: s.peer.acks } }

/-- The state in which P-TX is enabled and sends this byte as the data byte of a write to REG_CTRL (41_bus_controller.md R152,
30_encoding.md R116). -/
def readyForControl (b : Byte) (s : State) : State :=
  { s with
    ctl := { s.ctl with
      swrst := false, txstt := false, txstp := false, tr := true, sync := true, mode := 0b11#2, mst := true }
    i2ctxbuf := b
    phase := .tx
    txpending := true
    trace := s.trace ++ [.start, .addr s.i2csa false true, .tx Config.regCtrl true]
    agenda := .bus :: s.agenda
    peer := { s.peer with acks := true :: s.peer.acks } }

/-- The state whose next step carries out what this carrier carries (log entry 10). -/
def readyFor (c : Carrier) (s : State) : State :=
  match c with
  | .host a => { s with agenda := .access a :: s.agenda }
  | .address b => readyForAddress b s
  | .control b => readyForControl b s

end Sys2Proof.Machine
end

