-- ==== Sys2Proof/Machine/Step.lean ====
section
/-! DEFINITION. The step of the machine (spec 00_scope.md R11) and the placing of a bare opcode word where the next step takes it. -/

namespace Sys2Proof.Machine

/-- One atomic step. -/
def step (s : State) : Host.Outcome State Fault Refusal := nextMove s

/-- The state whose next step runs the instruction of a bare word of the opcode table (log entry 10). -/
def State.withFetchWord (s : State) (nbits w : Nat) : State :=
  match tableCarrier nbits w with
  | some c => readyFor c s
  | none => s

end Sys2Proof.Machine
end

