-- ==== Sys2Proof/Machine/HostProgram.lean ====
section
/-! DEFINITION. Host statements and the pseudo-instructions as moves of the agenda (spec 30_encoding.md R120, R121). -/

namespace Sys2Proof.Machine

/-- `W16 off, v` (R120). -/
def w16 (off : BitVec 7) (v : Word) : Move := .access (.write 2 off v)

/-- `R16 off -> name` (R120): the value is the next entry of `reads`. -/
def r16 (off : BitVec 7) : Move := .access (.read 2 off)

/-- `WAITIDLE`, which is `POLL 0x12, 0x0001, 0x0000` (R121). -/
def waitIdle : Move := .poll 0x12#7 0x0001#16 0x0000#16

/-- The ARG word `(v << 8) | r` (30_encoding.md R112). -/
def argWord (r v : Byte) : Word := v ++ r

/-- A command word written and waited for (R121). -/
def issueAndWait (w : Word) : List Move := [w16 0x10#7 w, waitIdle]

/-! The pseudo-instructions (R121) -/

def pseudoInit : List Move := issueAndWait 0x0001#16
def pseudoWriteReg (r v : Byte) : List Move := w16 0x0E#7 (argWord r v) :: issueAndWait 0x0002#16
def pseudoReadBytes (r n : Byte) : List Move := w16 0x0E#7 (argWord r n) :: issueAndWait 0x0003#16
def pseudoReadCal : List Move := issueAndWait 0x0004#16
def pseudoMeasureT : List Move := issueAndWait 0x0005#16
def pseudoMeasureP (oss : BitVec 2) : List Move := issueAndWait (0x0006#16 ||| (oss.setWidth 16 <<< 4))
def pseudoCalcT : List Move := issueAndWait 0x0007#16
def pseudoCalcP (oss : BitVec 2) : List Move := issueAndWait (0x0008#16 ||| (oss.setWidth 16 <<< 4))
def pseudoSetUt (v : Word) : List Move := [w16 0x14#7 v]
def pseudoSetUp (v : Long) : List Move := [w16 0x16#7 (lo v), w16 0x18#7 (hi v)]
/-- `GET32 lo -> name`: the value is the second entry read over the first (R121). For lo = 0x7E, whose lo + 2 lies outside the window,
the second read is that of offset 0x00 (DESIGN CHOICE, log entry 18). -/
def pseudoGet32 (off : BitVec 7) : List Move := [r16 off, r16 (off + 2#7)]

/-- The boot order (70_reset_and_hazards.md R313): INIT, READ_CAL, then measurements. -/
def bootProgram (measurements : List Move) : List Move := pseudoInit ++ pseudoReadCal ++ measurements

end Sys2Proof.Machine
end

