-- ==== Sys2Proof/Safety.lean ====
section
/-! DEFINITION. What every reachable state of the block satisfies, and the framing law of the trace: the terms the claims use. -/

namespace Sys2Proof.Machine

/-! ## The framing law (spec 41_bus_controller.md R156; its printed shape does not admit the traces of 42_transport.md R186, see log entry 12) -/

/-- Where a trace stands in its current transaction. `asked` says that a STOP_REQ has been logged and its STOP has not. -/
inductive Frame
  /-- no transaction is open -/
  | free
  /-- START or RESTART was logged, the address byte follows -/
  | addressing
  /-- after an acknowledged write address -/
  | sending (asked : Bool)
  /-- after an acknowledged read address -/
  | receiving (asked : Bool)
  /-- after a byte that was not acknowledged -/
  | holding (asked : Bool)
  /-- the final byte of a read was received, its STOP follows -/
  | closing
deriving DecidableEq, Repr

/-- The events that may follow in each place of a transaction, and the place after them; `none` for an event that may not. -/
def frameStep (f : Frame) (e : BusEvent) : Option Frame :=
  match f, e with
  | f, .convWait _ => some f
  | .free, .start => some .addressing
  | .addressing, .addr _ false true => some (.sending false)
  | .addressing, .addr _ true true => some (.receiving false)
  | .addressing, .addr _ _ false => some (.holding false)
  | .sending q, .tx _ true => some (.sending q)
  | .sending q, .tx _ false => some (.holding q)
  | .receiving false, .rx _ true => some (.receiving false)
  | .receiving false, .rx _ false => some (.holding false)
  | .receiving true, .rx _ false => some .closing
  | .closing, .stop => some .free
  | .sending false, .stopReq => some (.sending true)
  | .receiving false, .stopReq => some (.receiving true)
  | .holding false, .stopReq => some (.holding true)
  | .sending false, .restart => some .addressing
  | .holding false, .restart => some .addressing
  | .sending true, .stop => some .free
  | .holding true, .stop => some .free
  | .sending _, .abort => some .free
  | .receiving _, .abort => some .free
  | .holding _, .abort => some .free
  | _, _ => none

/-- The place of a whole trace, from the start of a run; `none` when some event may not stand where it does. -/
def frameOf (t : List BusEvent) : Option Frame := t.foldl (fun f e => f.bind (frameStep · e)) (some .free)

/-- The place the bus controller's own state stands for. -/
def frameFor (s : State) : Frame :=
  match s.phase with
  | .off => .free
  | .idle => .free
  | .tx => .sending s.ctl.txstp
  | .rx => .receiving s.ctl.txstp
  | .hold => .holding s.ctl.txstp

/-! ## Invariants -/

/-- SWRST = 1 holds the controller in phase OFF with no request, no flag and nothing queued, and OFF is held only by SWRST
(10_state.md R31, R44). -/
def ResetHeld (s : State) : Prop :=
  (s.ctl.swrst = true ↔ s.phase = .off) ∧
  (s.ctl.swrst = true → s.ctl.txstt = false ∧ s.ctl.txstp = false ∧ s.ifg = ⟨false, false, false⟩ ∧ s.txpending = false)

/-- No STOP is pending on a free bus (10_state.md R33, 41_bus_controller.md R145). -/
def NoStopWhenIdle (s : State) : Prop := s.phase = .idle → s.ctl.txstp = false

/-- BUSY is 1 exactly while the engine has a command (10_state.md R49, R53). -/
def BusyMatchesEngine (s : State) : Prop := s.status.busy = s.eng.isSome

/-- A running command shows neither DONE nor an error (10_state.md R50, R51). -/
def RunningNotDone (s : State) : Prop := s.status.busy = true → s.status.done = false ∧ s.status.err = .none

/-- A running engine rests only at a conversion wait or at a flag wait whose condition does not hold: no flag becomes true without
its reaction in the same step (42_transport.md R181). -/
def EngineAtWait (s : State) : Prop :=
  s.eng.isSome = true →
    match remaining s with
    | .wait c :: _ => c.holds s = false
    | .convWait _ :: _ => True
    | _ => False

/-- The calibration store holds zeros until the first successful READ_CAL (43_calibration_store.md R213). -/
def StoreBlankUntilValid (s : State) : Prop :=
  s.status.calv = false → s.cal = Vector.replicate Config.nCoef 0x0000#16

/-- The trace obeys the framing law, and says who owns the bus and whether a STOP is pending. -/
def Framed (s : State) : Prop := frameOf s.trace = some (frameFor s)

/-- What every step keeps. -/
structure Inv (s : State) : Prop where
  resetHeld : ResetHeld s
  noStopWhenIdle : NoStopWhenIdle s
  busyMatchesEngine : BusyMatchesEngine s
  runningNotDone : RunningNotDone s
  engineAtWait : EngineAtWait s
  storeBlank : StoreBlankUntilValid s
  framed : Framed s

/-! ## Observation points -/

/-- Quiescent: the engine is idle and no bus step is enabled (70_reset_and_hazards.md R323). -/
def quiescent (s : State) : Bool := s.eng.isNone && !busEnabled s

end Sys2Proof.Machine
end

