-- ==== Sys2Proof/Certificates/Slice0/Obligations.lean ====
section
/-! DEFINITION. The statements for the provers, from the numbered rules of spec/. -/

open Sys2Proof Sys2Proof.Machine

namespace Sys2Proof.Machine

/-- A command has been taken and its first action block has requested a START to write (spec 42_transport.md R180, R184, R186): the
word stands in CMD, BUSY is set, the operands are latched, the flags are cleared, TR is 1, and the engine waits for TXIFG at
position `pos`. Under SWRST the request has no effect (41_bus_controller.md R144). -/
def begun (w : Word) (c : Command) (oss : BitVec 2) (pos : Nat) (s : State) : State :=
  { s with
    cmd := w
    status := { s.status with busy := true, done := false, ovr := false, err := .none }
    eng := some { cmd := c, arg := s.arg, oss := oss, pos := pos, bytes := [] }
    ifg := { rxifg := false, txifg := false, nackifg := false }
    ctl := { s.ctl with tr := true, txstt := !s.ctl.swrst } }

/-- A command word was taken and its command ended at once (42_transport.md R180, 60_exceptions.md R289). -/
def endedAtOnce (w : Word) (e : Err) (s : State) : State :=
  { s with
    cmd := w
    status := { s.status with busy := false, done := true, ovr := false, err := e }
    eng := none }

/-- The error codes of 60_exceptions.md R280, as its table numbers them. -/
def errNumber : Err → Nat
  | .none => 0
  | .illegalCmd => 1
  | .badArg => 2
  | .uninitCal => 3
  | .divZero => 4
  | .overflow => 5
  | .busTimeout => 6

/-- The configuration fields of a write over the control register (41_bus_controller.md R141), SWRST apart. -/
def configured' (w : CtlWrite) (c : Ctl) : Ctl :=
  { c with tr := w.tr, ssel := w.ssel, sync := w.sync, mode := w.mode, mst := w.mst }

/-- A write of I2CCTL with these fields has been carried out (10_state.md R37, 41_bus_controller.md R141 to R145). -/
def controlWritten (w : CtlWrite) (s : State) : State :=
  { s with
    ctl := { configured' w s.ctl with
      swrst := w.swrst
      txstt := !w.swrst && (s.ctl.txstt || w.txstt)
      txstp := !w.swrst && (s.ctl.txstp || (w.txstp && s.phase.owns)) }
    phase := if w.swrst then .off else if s.ctl.swrst then .idle else s.phase
    ifg := if w.swrst then ⟨false, false, false⟩ else s.ifg
    txpending := !w.swrst && s.txpending
    trace := s.trace ++
      (if w.swrst then (if s.phase.owns then [.abort] else [])
       else if w.txstp && s.phase.owns && !s.ctl.txstp then [.stopReq] else []) }

/-- What a transport command needs to make the traces of 42_transport.md R184 and R186 exactly (R194): the controller configured and
in IDLE, nothing requested, nothing queued, the engine idle. -/
def transportReady (s : State) : Prop :=
  s.status.busy = false ∧ s.configured = true ∧ s.phase = .idle ∧ s.ctl.txstt = false ∧ s.ctl.txstp = false ∧
    s.txpending = false

/-- The trace of WR(r, v) with an acknowledging peer (42_transport.md R184). -/
def wrTrace (a : BitVec 7) (r v : Byte) : List BusEvent :=
  [.start, .addr a false true, .tx r true, .tx v true, .stopReq, .stop]

/-- The trace of RD(r, n) with an acknowledging peer that returns the bytes `d` and `final`, n = d.length + 1 (42_transport.md R186). -/
def rdTrace (a : BitVec 7) (r : Byte) (d : List Byte) (final : Byte) : List BusEvent :=
  [.start, .addr a false true, .tx r true, .restart, .addr a true true] ++ d.map (fun b => BusEvent.rx b true)
    ++ [.stopReq, .rx final false, .stop]

end Sys2Proof.Machine

/-! ## Reset and invariants -/

/-- 70_reset_and_hazards.md R310, R311: block reset, from any state, sets every piece of state to its reset value, and appends ABORT
when the bus was owned; the initial state has the same values and an empty trace. -/
def Obligations.BlockResetSetsEveryRegister : Prop :=
  (∀ (s : State) (rest : List Move), s.agenda = .blockReset :: rest →
    ∃ t, step s = .next t ∧ t.ctl.toWord = 0x0101#16 ∧ t.i2cbrw = 0#16 ∧ t.i2cstat = 0#16 ∧ t.i2crxbuf = 0#8 ∧
      t.i2ctxbuf = 0#8 ∧ t.i2csa = 0#7 ∧ t.ifg.toWord = 0#16 ∧ t.phase = .off ∧ t.txpending = false ∧ t.cmd = 0#16 ∧
      t.arg = 0#16 ∧ t.status.toWord = 0#16 ∧ t.eng = none ∧ t.ut = 0#16 ∧ t.up = 0#32 ∧ t.t10 = 0#32 ∧ t.p = 0#32 ∧
      t.b5 = 0#32 ∧ t.cal = Vector.replicate 11 0#16 ∧ t.rxdata = Vector.replicate 32 0#8 ∧
      t.trace = (if s.phase = .tx ∨ s.phase = .rx ∨ s.phase = .hold then s.trace ++ [.abort] else s.trace)) ∧
  (State.reset.ctl.toWord = 0x0101#16 ∧ State.reset.phase = .off ∧ State.reset.txpending = false ∧ State.reset.eng = none ∧
    State.reset.trace = [] ∧ ∀ off : BitVec 7, off.toNat % 2 = 0 → off ≠ 0#7 → readReg off State.reset = 0#16)

/-- The state after reset satisfies the invariant. -/
def Obligations.ResetSatisfiesInvariant : Prop := Inv State.reset

/-- Every step, by any agent, from any state that satisfies the invariant keeps it: SWRST holds the controller, no STOP is pending on
a free bus, BUSY shows the running command, the engine rests only at waits, the store is blank until valid, and the trace obeys the
framing law and says who owns the bus. -/
def Obligations.EveryStepKeepsInvariant : Prop :=
  ∀ s t : State, Inv s → step s = .next t → Inv t

/-- 10_state.md R65: no step changes the parameters. -/
def Obligations.NoStepChangesParameters : Prop :=
  ∀ s t : State, step s = .next t → t.cfg = s.cfg

/-- 10_state.md R63: steps only append to the trace; it is never cleared. -/
def Obligations.TraceOnlyGrows : Prop :=
  ∀ s t : State, step s = .next t → ∃ l : List BusEvent, t.trace = s.trace ++ l

/-- 10_state.md R59, R61, 43_calibration_store.md R210: the store and CALV change only in the step that ends a READ_CAL with success,
which leaves CALV = 1, or by block reset. -/
def Obligations.StoreChangesOnlyByReadCalOrReset : Prop :=
  ∀ s t : State, Inv s → step s = .next t →
    (t.cal = s.cal ∧ t.status.calv = s.status.calv) ∨
    ((∃ r, s.eng = some r ∧ r.cmd = .readCal) ∧ t.status.calv = true ∧ t.eng = none ∧ t.status.err = .none) ∨
    (∃ rest, s.agenda = .blockReset :: rest)

/-- Block reset apart, a data register changes only where a rule says so (20_memory.md R90). T10, P and B5 change only in the step in
which CALC_T or MEASURE_T, CALC_P or MEASURE_P ends with success (10_state.md R56, R57, R58). UT changes only in the step that ends a
measurement or by the host's write, UP only where the pressure cycle of MEASURE_P hands over to its temperature cycle or by the host's
write of one half (R54, R55). RXDATA changes only in the step that ends a command with a read, or at that hand-over (R62,
42_transport.md R186). -/
def Obligations.OutputsChangeOnlyByTheirCommands : Prop :=
  ∀ s t : State, Inv s → step s = .next t → (∀ rest, s.agenda ≠ .blockReset :: rest) →
    let running (c : Command) : Prop := ∃ r, s.eng = some r ∧ r.cmd = c
    let writes (off : BitVec 7) (v : Word) : Prop := ∃ rest, s.agenda = .access (.write 2 off v) :: rest
    let handsOver : Prop := running .measureP ∧ ∃ r, t.eng = some r ∧ r.cmd = .measureP ∧ r.pos = 28
    (t.t10 = s.t10 ∨ (t.eng = none ∧ t.status.err = .none ∧
      (running .measureT ∨ ∃ oss, writes offCmd (commandWord 0x7#4 oss)))) ∧
    ((t.p = s.p ∧ t.b5 = s.b5) ∨ (t.eng = none ∧ t.status.err = .none ∧
      (running .measureP ∨ ∃ oss, writes offCmd (commandWord 0x8#4 oss)))) ∧
    (t.ut = s.ut ∨ (t.eng = none ∧ (running .measureT ∨ running .measureP)) ∨
      (s.status.busy = false ∧ writes 0x14#7 t.ut)) ∧
    (t.up = s.up ∨ handsOver ∨
      (s.status.busy = false ∧ writes 0x16#7 (t.up.extractLsb' 0 16) ∧ t.up.extractLsb' 16 16 = s.up.extractLsb' 16 16) ∨
      (s.status.busy = false ∧ writes 0x18#7 (t.up.extractLsb' 16 16) ∧ t.up.extractLsb' 0 16 = s.up.extractLsb' 0 16)) ∧
    (t.rxdata = s.rxdata ∨ handsOver ∨
      (t.eng = none ∧ (running .readBytes ∨ running .readCal ∨ running .measureT ∨ running .measureP)))

/-! ## Encoding -/

/-- Decoding an encoded well-formed instruction gives it back, whenever its row is selected (30_encoding.md R110 to R119). -/
def Obligations.DecodeOfEncode : Prop :=
  ∀ (swrst : Bool) (i : Instr), i.wf = true → i.selected swrst = true → decode swrst (encode i) = .ok i

/-- 30_encoding.md R114: the command word decoder, on all 65536 words; an illegal word written to CMD ends with ILLEGAL_CMD. -/
def Obligations.CommandWordDecodes : Prop :=
  ∀ w : Word,
    let op := (w.extractLsb' 0 4).toNat
    let oss := w.extractLsb' 4 2
    ((w.extractLsb' 6 10 ≠ 0#10 ∨ op = 0 ∨ 9 ≤ op) →
      decodeCommand w = none ∧
      ∀ s : State, s.status.busy = false → hostAccess (.write 2 0x10#7 w) s = .next (endedAtOnce w .illegalCmd s)) ∧
    (w.extractLsb' 6 10 = 0#10 →
      (op = 1 → decodeCommand w = some (.init oss)) ∧ (op = 2 → decodeCommand w = some (.writeReg oss)) ∧
      (op = 3 → decodeCommand w = some (.readBytes oss)) ∧ (op = 4 → decodeCommand w = some (.readCal oss)) ∧
      (op = 5 → decodeCommand w = some (.measureT oss)) ∧ (op = 6 → decodeCommand w = some (.measureP oss)) ∧
      (op = 7 → decodeCommand w = some (.calcT oss)) ∧ (op = 8 → decodeCommand w = some (.calcP oss)))

/-- Words written out from the spec's encodings decode to the instructions they stand for (30_encoding.md R115, R116, R118;
41_bus_controller.md R141 to R150). -/
def Obligations.SpecWordsDecode : Prop :=
  decode true (.host (.write 2 0x10#7 0x0001#16)) = .ok (.init 0#2) ∧
  decode true (.host (.write 2 0x10#7 0x0036#16)) = .ok (.measureP 3#2) ∧
  decode false (.host (.write 2 0x00#7 0x0F92#16)) = .ok (.ctlStart ⟨false, true, false, true, 0b10#2, true, 0b11#2, true⟩) ∧
  decode false (.host (.write 2 0x08#7 0x00F4#16)) = .ok (.txByte 0xF4#8) ∧
  decode false (.control 0x2E#8) = .ok .ctrlTemp ∧
  decode false (.control 0xB4#8) = .ok (.ctrlPress 2#2) ∧
  decode false (.address 0xEE#8) = .ok (.addrWrite 0x77#7) ∧
  decode false (.address 0xEF#8) = .ok (.addrRead 0x77#7)

/-! ## The step and the register window -/

/-- A host access that decodes to an instruction is carried out by executing it (20_memory.md R90, R91; 30_encoding.md R119). -/
def Obligations.HostAccessRunsDecodedInstruction : Prop :=
  ∀ (s : State) (a : Access) (rest : List Move) (i : Instr), s.agenda = .access a :: rest →
    decode s.ctl.swrst (.host a) = .ok i → step s = exec i { s with agenda := rest }

/-- A bus step that sends an instruction byte executes the instruction the byte decodes to: the address byte of P-START, and a sensor
command byte when P-TX sends the data byte of a write to REG_CTRL (30_encoding.md R116, R118; log entry 9 for the second). -/
def Obligations.BusByteRunsDecodedInstruction : Prop :=
  ∀ (s : State) (rest : List Move), s.agenda = .bus :: rest →
    (startEnabled s = true → step s = exec (decodeAddress (outgoingAddress s)) { s with agenda := rest }) ∧
    (∀ i, s.phase = .tx → s.txpending = true → controlByteDue s = true → decodeControl s.i2ctxbuf = some i →
      step s = exec i { s with agenda := rest })

/-- 20_memory.md R81: a byte access, an access at an odd offset and a 32-bit access are refused; every 16-bit access at an even
offset is carried out. -/
def Obligations.OnlyWordAccessesAdmitted : Prop :=
  (∀ (s : State) (rest : List Move) (n : Nat) (off : BitVec 7) (v : Word), n ≠ 2 ∨ off.toNat % 2 = 1 →
    (s.agenda = .access (.read n off) :: rest → step s = .refused .accessShape) ∧
    (s.agenda = .access (.write n off v) :: rest → step s = .refused .accessShape)) ∧
  (∀ (s : State) (rest : List Move) (off : BitVec 7) (v : Word), off.toNat % 2 = 0 →
    (s.agenda = .access (.read 2 off) :: rest → ∃ t, step s = .next t) ∧
    (s.agenda = .access (.write 2 off v) :: rest → ∃ t, step s = .next t))

/-- While a command runs, every host write is ignored, and a write of CMD sets OVR besides (20_memory.md R89, 10_state.md R46). -/
def Obligations.BusyLockIgnoresHostWrites : Prop :=
  ∀ (s : State) (rest : List Move) (off : BitVec 7) (v : Word), s.status.busy = true → off.toNat % 2 = 0 →
    s.agenda = .access (.write 2 off v) :: rest →
    (off ≠ 0x10#7 → step s = .next { s with agenda := rest }) ∧
    (off = 0x10#7 → step s = .next { s with agenda := rest, status := { s.status with ovr := true } })

/-- 10_state.md R52: OVR is set by an ignored write of CMD and cleared when the engine next takes a command, for every word. -/
def Obligations.OverrunSetAndCleared : Prop :=
  ∀ (s : State) (w : Word),
    (s.status.busy = true → hostAccess (.write 2 0x10#7 w) s = .next { s with status := { s.status with ovr := true } }) ∧
    (s.status.busy = false → ∃ t, hostAccess (.write 2 0x10#7 w) s = .next t ∧ t.status.ovr = false ∧ t.cmd = w)

/-- Host writes of data registers while no command runs: ARG, UT, and each half of UP alone (10_state.md R47, R54, R55;
20_memory.md R82). -/
def Obligations.DataRegisterWrites : Prop :=
  ∀ (s : State) (rest : List Move) (off : BitVec 7) (v : Word), s.status.busy = false →
    s.agenda = .access (.write 2 off v) :: rest →
    (off = 0x0E#7 → step s = .next { s with agenda := rest, arg := v }) ∧
    (off = 0x14#7 → step s = .next { s with agenda := rest, ut := v }) ∧
    (off = 0x16#7 → ∃ t, step s = .next t ∧ t = { s with agenda := rest, up := t.up } ∧
      t.up.extractLsb' 0 16 = v ∧ t.up.extractLsb' 16 16 = s.up.extractLsb' 16 16) ∧
    (off = 0x18#7 → ∃ t, step s = .next t ∧ t = { s with agenda := rest, up := t.up } ∧
      t.up.extractLsb' 16 16 = v ∧ t.up.extractLsb' 0 16 = s.up.extractLsb' 0 16)

/-- 20_memory.md R85: a read of a reserved offset returns 0, and a write to a reserved offset or to a read-only register is ignored. -/
def Obligations.ReservedAndReadOnlyOffsets : Prop :=
  (∀ (s : State) (rest : List Move) (off : BitVec 7),
    (off = 0x26#7 ∨ off = 0x3E#7 ∨ (0x60 ≤ off.toNat ∧ off.toNat % 2 = 0)) → s.agenda = .access (.read 2 off) :: rest →
    step s = .next { s with agenda := rest, reads := s.reads ++ [0x0000#16] }) ∧
  (∀ (s : State) (rest : List Move) (off : BitVec 7) (v : Word), off.toNat % 2 = 0 →
    off.toNat ∉ [0x00, 0x02, 0x08, 0x0A, 0x0C, 0x0E, 0x10, 0x14, 0x16, 0x18] → s.agenda = .access (.write 2 off v) :: rest →
    step s = .next { s with agenda := rest })

/-- A read of any register but I2CRXBUF returns it and changes nothing (20_memory.md R87). -/
def Obligations.ReadsHaveNoSideEffect : Prop :=
  ∀ (s : State) (rest : List Move) (off : BitVec 7), off.toNat % 2 = 0 → off ≠ 0x06#7 →
    s.agenda = .access (.read 2 off) :: rest →
    step s = .next { s with agenda := rest, reads := s.reads ++ [readReg off s] }

/-- The bits of I2CCTL, I2CSTAT, I2CIFG and STATUS as the host reads them, with the number of each error in STATUS.ERR; every other
bit reads 0 (10_state.md R30, R36, R39, R43, R48; 60_exceptions.md R280). -/
def Obligations.ControlAndStatusBits : Prop :=
  ∀ s : State,
    (let c := readReg 0x00#7 s
     c.getLsbD 0 = s.ctl.swrst ∧ c.getLsbD 1 = s.ctl.txstt ∧ c.getLsbD 2 = s.ctl.txstp ∧ c.getLsbD 4 = s.ctl.tr ∧
     c.extractLsb' 6 2 = s.ctl.ssel ∧ c.getLsbD 8 = s.ctl.sync ∧ c.extractLsb' 9 2 = s.ctl.mode ∧ c.getLsbD 11 = s.ctl.mst ∧
     c &&& 0xF028#16 = 0#16) ∧
    (let c := readReg 0x04#7 s
     (c.getLsbD 4 = true ↔ s.phase = .tx ∨ s.phase = .rx ∨ s.phase = .hold) ∧ c &&& 0xFFEF#16 = 0#16) ∧
    (let c := readReg 0x0C#7 s
     c.getLsbD 0 = s.ifg.rxifg ∧ c.getLsbD 1 = s.ifg.txifg ∧ c.getLsbD 5 = s.ifg.nackifg ∧ c &&& 0xFFDC#16 = 0#16) ∧
    (let c := readReg 0x12#7 s
     c.getLsbD 0 = s.status.busy ∧ c.getLsbD 1 = s.status.done ∧ c.getLsbD 2 = s.status.calv ∧ c.getLsbD 3 = s.status.ovr ∧
     (c.extractLsb' 8 3).toNat = errNumber s.status.err ∧ c &&& 0xF8F0#16 = 0#16)

/-- Every register that is stored whole, as the host reads it: 32-bit values low half first, CAL[i] at 0x28 + 2i, RXDk =
RXDATA[2k+1] : RXDATA[2k], and the other registers at their offsets, an 8-bit or 7-bit one with 0 above it (20_memory.md R82, R84;
10_state.md R38, R40 to R42, R46, R47, R54, R62). -/
def Obligations.DataRegistersReadBack : Prop :=
  ∀ s : State,
    readReg 0x18#7 s ++ readReg 0x16#7 s = s.up ∧ readReg 0x1C#7 s ++ readReg 0x1A#7 s = s.t10 ∧
    readReg 0x20#7 s ++ readReg 0x1E#7 s = s.p ∧ readReg 0x24#7 s ++ readReg 0x22#7 s = s.b5 ∧
    readReg 0x02#7 s = s.i2cbrw ∧ readReg 0x06#7 s = 0x00#8 ++ s.i2crxbuf ∧ readReg 0x08#7 s = 0x00#8 ++ s.i2ctxbuf ∧
    readReg 0x0A#7 s = 0#9 ++ s.i2csa ∧ readReg 0x0E#7 s = s.arg ∧ readReg 0x10#7 s = s.cmd ∧ readReg 0x14#7 s = s.ut ∧
    (∀ i : Fin 11, readReg (BitVec.ofNat 7 (0x28 + 2 * i.val)) s = s.cal.get i) ∧
    (∀ k : Fin 16, readReg (BitVec.ofNat 7 (0x40 + 2 * k.val)) s =
      s.rxdata.get ⟨2 * k.val + 1, by simp only [Config.rxdataSize]; omega⟩
        ++ s.rxdata.get ⟨2 * k.val, by simp only [Config.rxdataSize]; omega⟩)

/-! ## Register actions -/

/-- The whole effect of a write of I2CCTL in one closed form, for all five rows and for every word written: bits 0, 1, 2, 4, 7:6, 8,
10:9 and 11 are its fields, and the others are ignored (10_state.md R30, R36, R37; 41_bus_controller.md R141 to R145). -/
def Obligations.ControlWriteInOneForm : Prop :=
  ∀ s : State, ResetHeld s → NoStopWhenIdle s → s.status.busy = false →
    (∀ (w : CtlWrite) (i : Instr),
      i ∈ [Instr.ctlConfig w, .ctlEnterReset w, .ctlLeaveReset w, .ctlStart w, .ctlStop w] →
      exec i s = .next (controlWritten w s)) ∧
    (∀ v : Word, hostAccess (.write 2 0x00#7 v) s = .next (controlWritten
      ⟨v.getLsbD 0, v.getLsbD 1, v.getLsbD 2, v.getLsbD 4, v.extractLsb' 6 2, v.getLsbD 8, v.extractLsb' 9 2, v.getLsbD 11⟩ s))

/-- 41_bus_controller.md R141: a write that keeps SWRST and requests nothing writes the configuration fields and nothing else. -/
def Obligations.ConfigWriteSetsFieldsOnly : Prop :=
  ∀ (w : CtlWrite) (s : State), s.status.busy = false → w.swrst = s.ctl.swrst → w.txstt = false → w.txstp = false →
    exec (.ctlConfig w) s = .next { s with ctl := configured' w s.ctl }

/-- 41_bus_controller.md R142: entering reset aborts an owned bus, clears requests, flags and the queue, and keeps the buffers, the
address and the divisor; in reset already, only the configuration is written. -/
def Obligations.EnterResetClearsController : Prop :=
  ∀ (w : CtlWrite) (s : State), s.status.busy = false → w.swrst = true → w.txstt = false → w.txstp = false →
    (s.ctl.swrst = false → exec (.ctlEnterReset w) s = .next { s with
      ctl := { configured' w s.ctl with swrst := true, txstt := false, txstp := false }
      phase := .off
      ifg := ⟨false, false, false⟩
      txpending := false
      trace := if s.phase = .tx ∨ s.phase = .rx ∨ s.phase = .hold then s.trace ++ [.abort] else s.trace }) ∧
    (s.ctl.swrst = true → exec (.ctlEnterReset w) s = .next { s with ctl := configured' w s.ctl })

/-- 41_bus_controller.md R143: leaving reset gives phase IDLE and logs nothing. -/
def Obligations.LeaveResetGivesIdle : Prop :=
  ∀ (w : CtlWrite) (s : State), s.status.busy = false → s.ctl.swrst = true → w.swrst = false → w.txstt = false →
    w.txstp = false →
    exec (.ctlLeaveReset w) s = .next { s with ctl := { configured' w s.ctl with swrst := false }, phase := .idle }

/-- 41_bus_controller.md R144: a START request is set unless SWRST is 1 after the write. -/
def Obligations.StartRequestSetsTxstt : Prop :=
  ∀ (w : CtlWrite) (s : State), s.status.busy = false → w.txstt = true → w.txstp = false →
    (w.swrst = false → exec (.ctlStart w) s = .next { s with
      ctl := { configured' w s.ctl with swrst := false, txstt := true }
      phase := if s.ctl.swrst then .idle else s.phase }) ∧
    (w.swrst = true → s.ctl.swrst = true → exec (.ctlStart w) s = .next { s with ctl := configured' w s.ctl }) ∧
    (w.swrst = true → s.ctl.swrst = false → ∃ t, exec (.ctlStart w) s = .next t ∧ t.ctl.txstt = false)

/-- 41_bus_controller.md R145: a STOP request on a free bus is dropped, on an owned bus it is set and logged once, and under SWRST it
has no effect. -/
def Obligations.StopRequestSetsTxstp : Prop :=
  ∀ (w : CtlWrite) (s : State), s.status.busy = false → w.txstp = true → w.txstt = false → w.swrst = s.ctl.swrst →
    (s.ctl.swrst = true → exec (.ctlStop w) s = .next { s with ctl := configured' w s.ctl }) ∧
    (s.ctl.swrst = false → s.phase = .idle →
      exec (.ctlStop w) s = .next { s with ctl := { configured' w s.ctl with txstp := false } }) ∧
    (s.ctl.swrst = false → s.phase ≠ .idle → s.ctl.txstp = false →
      exec (.ctlStop w) s = .next { s with
        ctl := { configured' w s.ctl with txstp := true }, trace := s.trace ++ [.stopReq] }) ∧
    (s.ctl.swrst = false → s.phase ≠ .idle → s.ctl.txstp = true →
      exec (.ctlStop w) s = .next { s with ctl := configured' w s.ctl })

/-- 41_bus_controller.md R146: bits 7:0 of a word written to I2CTXBUF are stored, and queued with TXIFG cleared unless SWRST is 1. -/
def Obligations.SendByteQueues : Prop :=
  (∀ (v : Word) (s : State), hostAccess (.write 2 0x08#7 v) s = exec (.txByte (v.extractLsb' 0 8)) s) ∧
  (∀ (b : Byte) (s : State), s.status.busy = false →
    (s.ctl.swrst = false → exec (.txByte b) s = .next { s with
      i2ctxbuf := b, txpending := true, ifg := { s.ifg with txifg := false } }) ∧
    (s.ctl.swrst = true → exec (.txByte b) s = .next { s with i2ctxbuf := b }))

/-- 41_bus_controller.md R147: a host read of I2CRXBUF returns the byte, and clears RXIFG only while no command runs; an engine read
always clears it. -/
def Obligations.TakeByteClearsRxifg : Prop :=
  (∀ s : State,
    (s.status.busy = false → exec .rxByte s = .next { s with
      reads := s.reads ++ [s.i2crxbuf.setWidth 16], ifg := { s.ifg with rxifg := false } }) ∧
    (s.status.busy = true → exec .rxByte s = .next { s with reads := s.reads ++ [s.i2crxbuf.setWidth 16] })) ∧
  (∀ s : State, ∃ t, act .take s = .ok t ∧ t.ifg = { s.ifg with rxifg := false } ∧
    localBytes t = (if s.eng = none then [] else localBytes s ++ [s.i2crxbuf]))

/-- 41_bus_controller.md R148: RXIFG, TXIFG and NACKIFG take bits 0, 1 and 5 of the word written to I2CIFG unless SWRST is 1. -/
def Obligations.FlagWriteStoresFlags : Prop :=
  (∀ (v : Word) (s : State),
    hostAccess (.write 2 0x0C#7 v) s = exec (.ifgWrite (v.getLsbD 0) (v.getLsbD 1) (v.getLsbD 5)) s) ∧
  (∀ (r t n : Bool) (s : State), s.status.busy = false →
    (s.ctl.swrst = false → exec (.ifgWrite r t n) s = .next { s with ifg := ⟨r, t, n⟩ }) ∧
    (s.ctl.swrst = true → exec (.ifgWrite r t n) s = .next s))

/-- 41_bus_controller.md R149, R150: the peer address keeps bits 6:0 of the word, the divisor all of it. -/
def Obligations.AddressAndDivisorWrites : Prop :=
  ∀ (v : Word) (s : State), s.status.busy = false →
    hostAccess (.write 2 0x0A#7 v) s = exec (.saWrite (v.extractLsb' 0 7)) s ∧
    exec (.saWrite (v.extractLsb' 0 7)) s = .next { s with i2csa := v.extractLsb' 0 7 } ∧
    hostAccess (.write 2 0x02#7 v) s = exec (.brwWrite v) s ∧
    exec (.brwWrite v) s = .next { s with i2cbrw := v }

/-! ## Bus steps -/

/-- 41_bus_controller.md R151: P-START sends the address byte; ADDR_WRITE when TR = 1, ADDR_READ when TR = 0. The engine's wait is then
re-tested (R140), which is the `resume`. -/
def Obligations.StartSendsAddressByte : Prop :=
  ∀ (a : BitVec 7) (s : State), s.ctl.txstt = true → s.ctl.txstp = false → s.configured = true → s.i2csa = a →
    (s.phase = .idle ∨ s.phase = .hold ∨ (s.phase = .tx ∧ s.txpending = false)) →
    let ack := (drawAck s).1
    let t : State := { s with
      peer := (drawAck s).2.peer
      trace := s.trace ++ [if s.phase = .idle then .start else .restart, .addr a (!s.ctl.tr) ack]
      ctl := { s.ctl with txstt := false }
      phase := if ack then (if s.ctl.tr then .tx else .rx) else .hold
      ifg := { s.ifg with txifg := ack && s.ctl.tr && !s.txpending, nackifg := s.ifg.nackifg || !ack } }
    (s.ctl.tr = true → exec (.addrWrite a) s = .next (resume t)) ∧
    (s.ctl.tr = false → exec (.addrRead a) s = .next (resume t))

/-- The sensor command bytes are sent by P-TX like any data byte: CTRL_TEMP is 0x2E, CTRL_PRESS is 0x34 + 64 * oss (30_encoding.md R116,
41_bus_controller.md R152). -/
def Obligations.SensorCommandBytesAreSent : Prop :=
  ∀ s : State, s.phase = .tx → s.txpending = true →
    let ack := (drawAck s).1
    let t : State := { s with
      peer := (drawAck s).2.peer
      trace := s.trace ++ [.tx s.i2ctxbuf ack]
      txpending := false
      phase := if ack then .tx else .hold
      ifg := { s.ifg with txifg := ack || s.ifg.txifg, nackifg := s.ifg.nackifg || !ack } }
    (s.i2ctxbuf = 0x2E#8 → exec .ctrlTemp s = .next (resume t)) ∧
    (∀ oss : BitVec 2, s.i2ctxbuf = BitVec.ofNat 8 (0x34 + 64 * oss.toNat) → exec (.ctrlPress oss) s = .next (resume t))

/-- The four byte rows have no effect when theirs is not the byte the controller is about to send. This is the model's choice (log
entry 9). -/
def Obligations.BytesNotSentHaveNoEffect : Prop :=
  ∀ (s : State) (a : BitVec 7) (oss : BitVec 2),
    (startEnabled s = false ∨ s.i2csa ≠ a ∨ s.ctl.tr = false → exec (.addrWrite a) s = .next s) ∧
    (startEnabled s = false ∨ s.i2csa ≠ a ∨ s.ctl.tr = true → exec (.addrRead a) s = .next s) ∧
    (txEnabled s = false ∨ s.i2ctxbuf ≠ 0x2E#8 → exec .ctrlTemp s = .next s) ∧
    (txEnabled s = false ∨ s.i2ctxbuf ≠ BitVec.ofNat 8 (0x34 + 64 * oss.toNat) → exec (.ctrlPress oss) s = .next s)

/-- 41_bus_controller.md R152: P-TX sends the queued byte, whichever it is. -/
def Obligations.TransmitStepSendsQueuedByte : Prop :=
  ∀ (s : State) (rest : List Move), s.agenda = .bus :: rest → s.phase = .tx → s.txpending = true →
    let ack := (drawAck s).1
    step s = .next (resume { s with
      agenda := rest
      peer := (drawAck s).2.peer
      trace := s.trace ++ [.tx s.i2ctxbuf ack]
      txpending := false
      phase := if ack then .tx else .hold
      ifg := { s.ifg with txifg := ack || s.ifg.txifg, nackifg := s.ifg.nackifg || !ack } })

/-- 41_bus_controller.md R153: P-RX takes a byte, acknowledges it unless a STOP or a restart is pending, and generates the pending
STOP. -/
def Obligations.ReceiveStepTakesByte : Prop :=
  ∀ (s : State) (rest : List Move), s.agenda = .bus :: rest → s.phase = .rx → s.ifg.rxifg = false →
    let b := (drawByte s).1
    step s = .next (resume { s with
      agenda := rest
      peer := (drawByte s).2.peer
      i2crxbuf := b
      ifg := { s.ifg with rxifg := true }
      trace := s.trace ++ [.rx b (!s.ctl.txstp && !s.ctl.txstt)] ++ (if s.ctl.txstp then [.stop] else [])
      ctl := { s.ctl with txstp := false }
      phase := if s.ctl.txstp then .idle else if s.ctl.txstt then .hold else .rx })

/-- 41_bus_controller.md R154: P-STOP generates the STOP and frees the bus. -/
def Obligations.StopStepFreesBus : Prop :=
  ∀ (s : State) (rest : List Move), s.agenda = .bus :: rest → s.ctl.txstp = true →
    (s.phase = .hold ∨ (s.phase = .tx ∧ s.txpending = false)) →
    step s = .next (resume { s with
      agenda := rest
      trace := s.trace ++ [.stop]
      ctl := { s.ctl with txstp := false }
      phase := .idle
      ifg := { s.ifg with txifg := false } })

/-- 41_bus_controller.md R155: at most one bus step is enabled in any state. -/
def Obligations.AtMostOneBusStepEnabled : Prop :=
  ∀ s : State,
    (startEnabled s = true → txEnabled s = false ∧ rxEnabled s = false ∧ stopEnabled s = false) ∧
    (txEnabled s = true → rxEnabled s = false ∧ stopEnabled s = false) ∧
    (rxEnabled s = true → stopEnabled s = false) ∧
    (s.phase = .off → busEnabled s = false)

/-! ## Commands -/

/-- 42_transport.md R183: INIT configures the controller in the issuing step and leaves the bus idle. -/
def Obligations.InitConfiguresController : Prop :=
  ∀ (oss : BitVec 2) (s : State), ResetHeld s → s.status.busy = false →
    exec (.init oss) s = .next { endedAtOnce (commandWord 0x1#4 oss) .none s with
      ctl := ⟨false, false, false, false, 0b10#2, true, 0b11#2, true⟩
      i2cbrw := Config.busClkDiv
      i2csa := s.cfg.devAddr
      phase := .idle
      txpending := false
      ifg := ⟨false, false, false⟩
      trace := if s.phase = .tx ∨ s.phase = .rx ∨ s.phase = .hold then s.trace ++ [.abort] else s.trace }

/-- WRITE_REG is taken with no precondition on CALV or the configuration, and requests a START to write (42_transport.md R180, R184,
R185). -/
def Obligations.WriteRegBegins : Prop :=
  ∀ (oss : BitVec 2) (s : State), ResetHeld s → s.status.busy = false →
    exec (.writeReg oss) s = .next (begun (commandWord 0x2#4 oss) .writeReg oss 2 s)

/-- READ_BYTES with a legal count, and READ_CAL, are taken and request a START to write (42_transport.md R180, R186, R187;
43_calibration_store.md R210). -/
def Obligations.ReadCommandsBegin : Prop :=
  ∀ (oss : BitVec 2) (s : State), ResetHeld s → s.status.busy = false →
    (1 ≤ (s.arg.extractLsb' 8 8).toNat → (s.arg.extractLsb' 8 8).toNat ≤ 32 →
      exec (.readBytes oss) s = .next (begun (commandWord 0x3#4 oss) .readBytes oss 3 s)) ∧
    exec (.readCal oss) s = .next (begun (commandWord 0x4#4 oss) .readCal oss 3 s)

/-- MEASURE_T and MEASURE_P, with a valid store, are taken and request the START of the write that starts the conversion
(42_transport.md R180; 44_measurement.md R221 to R225). -/
def Obligations.MeasureCommandsBegin : Prop :=
  ∀ (oss : BitVec 2) (s : State), ResetHeld s → s.status.busy = false → s.status.calv = true →
    exec (.measureT oss) s = .next (begun (commandWord 0x5#4 oss) .measureT oss 2 s) ∧
    exec (.measureP oss) s = .next (begun (commandWord 0x6#4 oss) .measureP oss 2 s)

/-- 45_pipeline.md R244: CALC_T ends in the issuing step, with T10 written on success and unchanged on an error. -/
def Obligations.CalcTComputesT10 : Prop :=
  ∀ (oss : BitVec 2) (s : State), s.status.busy = false →
    let w := commandWord 0x7#4 oss
    (s.status.calv = true → ∀ v, temp s.cfg.tempArith s.cal (s.ut.toNat : Int) = .ok v →
      exec (.calcT oss) s = .next { endedAtOnce w .none s with t10 := BitVec.ofInt 32 v }) ∧
    (s.status.calv = true → ∀ e, temp s.cfg.tempArith s.cal (s.ut.toNat : Int) = .error e →
      exec (.calcT oss) s = .next (endedAtOnce w e s)) ∧
    (s.status.calv = false → exec (.calcT oss) s = .next (endedAtOnce w .uninitCal s))

/-- 45_pipeline.md R251: CALC_P ends in the issuing step, with B5 and P written on success and unchanged on an error. -/
def Obligations.CalcPComputesPressure : Prop :=
  ∀ (oss : BitVec 2) (s : State), s.status.busy = false →
    let w := commandWord 0x8#4 oss
    (s.status.calv = true → ∀ b q, press s.cal (s.up.toNat : Int) (s.ut.toNat : Int) oss.toNat = .ok (b, q) →
      exec (.calcP oss) s = .next { endedAtOnce w .none s with b5 := BitVec.ofInt 32 b, p := BitVec.ofInt 32 q }) ∧
    (s.status.calv = true → ∀ e, press s.cal (s.up.toNat : Int) (s.ut.toNat : Int) oss.toNat = .error e →
      exec (.calcP oss) s = .next (endedAtOnce w e s)) ∧
    (s.status.calv = false → exec (.calcP oss) s = .next (endedAtOnce w .uninitCal s))

/-- The refusals at issue: BAD_ARG for a count outside 1 to 32 whatever CALV is, UNINIT_CAL for a measurement without a valid store
(60_exceptions.md R282, R283, R288). -/
def Obligations.RefusalsAtIssue : Prop :=
  ∀ (oss : BitVec 2) (s : State), s.status.busy = false →
    ((s.arg.extractLsb' 8 8 = 0#8 ∨ 32 < (s.arg.extractLsb' 8 8).toNat) →
      exec (.readBytes oss) s = .next (endedAtOnce (commandWord 0x3#4 oss) .badArg s)) ∧
    (s.status.calv = false →
      exec (.measureT oss) s = .next (endedAtOnce (commandWord 0x5#4 oss) .uninitCal s) ∧
      exec (.measureP oss) s = .next (endedAtOnce (commandWord 0x6#4 oss) .uninitCal s))

/-- The engine reacts to nothing while it is idle, waits for a flag that is not set, or waits for a conversion (42_transport.md R181). -/
def Obligations.EngineReactsOnlyToItsWait : Prop :=
  ∀ s : State,
    (s.eng = none → resume s = s) ∧
    (∀ c rest, remaining s = .wait c :: rest → c.holds s = false → resume s = s) ∧
    (∀ t rest, remaining s = .convWait t :: rest → resume s = s)

/-- The conversion steps of MEASURE_T and MEASURE_P: the event carries the time of 44_measurement.md R220, and the read of the result
begins with a START to write in the same step. -/
def Obligations.ConversionStepStartsRead : Prop :=
  ∀ (s : State) (rest : List Move) (r : Running) (t : Nat), ResetHeld s → s.agenda = .conv :: rest → s.eng = some r →
    ((r.cmd = .measureT ∧ r.pos = 9 ∧ t = 4500) ∨ (r.cmd = .measureP ∧ r.pos = 35 ∧ t = 4500) ∨
      (r.cmd = .measureP ∧ r.pos = 9 ∧
        t = (if r.oss = 0#2 then 4500 else if r.oss = 1#2 then 7500 else if r.oss = 2#2 then 13500 else 25500))) →
    step s = .next { s with
      agenda := rest
      trace := s.trace ++ [.convWait t]
      eng := some { r with pos := r.pos + 4, bytes := [] }
      ifg := ⟨false, false, false⟩
      ctl := { s.ctl with tr := true, txstt := !s.ctl.swrst } }

/-- 42_transport.md R192: under TIMEOUT a stuck engine ends its command with BUS_TIMEOUT, cancels a pending START and requests a STOP
when the bus is owned. R192 enables the step only there: that a timeout move anywhere else, or under BLOCK, has no effect is the
model's choice (log entry 4). -/
def Obligations.TimeoutEndsStuckCommand : Prop :=
  ∀ (s : State) (rest : List Move), ResetHeld s → s.agenda = .timeout :: rest →
    (stuck s = true → s.cfg.policy = .timeout → step s = .next { s with
      agenda := rest
      ctl := { s.ctl with txstt := false, txstp := s.ctl.txstp || s.phase.owns }
      trace := if s.phase.owns && !s.ctl.txstp then s.trace ++ [.stopReq] else s.trace
      status := { s.status with busy := false, done := true, err := .busTimeout }
      eng := none }) ∧
    (stuck s = false ∨ s.cfg.policy = .block → step s = .next { s with agenda := rest })

/-- Under BLOCK a stuck engine stays stuck through every step but block reset: BUSY stays 1, and the bus, the running command and the
trace stay as they are (42_transport.md R190, R191). -/
def Obligations.StuckStaysStuckUnderBlock : Prop :=
  ∀ s t : State, BusyMatchesEngine s → stuck s = true → s.cfg.policy = .block → (∀ rest, s.agenda ≠ .blockReset :: rest) →
    step s = .next t →
    stuck t = true ∧ t.status.busy = true ∧ t.status.done = s.status.done ∧ t.eng = s.eng ∧ t.ctl = s.ctl ∧ t.ifg = s.ifg ∧
      t.phase = s.phase ∧ t.trace = s.trace

/-! ## Whole transactions -/

/-- 42_transport.md R184, R185: with an acknowledging peer, WRITE_REG on a ready controller ends after its four bus steps, with exactly
the trace of WR and no data register changed. That the block takes its own steps once the agenda is empty is the model's choice (log
entry 5). -/
def Obligations.WriteRegTransaction : Prop :=
  ∀ (oss : BitVec 2) (s : State) (acks : List Bool), transportReady s →
    s.agenda = [.access (.write 2 0x10#7 (commandWord 0x2#4 oss))] → s.peer.acks = true :: true :: true :: acks →
    Sys2Proof.core.run 5 s = .next { endedAtOnce (commandWord 0x2#4 oss) .none s with
      agenda := []
      peer := { s.peer with acks := acks }
      ctl := { s.ctl with tr := true }
      i2ctxbuf := s.arg.extractLsb' 8 8
      ifg := ⟨false, false, false⟩
      trace := s.trace ++ wrTrace s.i2csa (s.arg.extractLsb' 0 8) (s.arg.extractLsb' 8 8) }

/-- 42_transport.md R186, R187, R189: with an acknowledging peer, READ_BYTES of any legal count ends after its bus steps, with exactly
the trace of RD (the STOP requested before the final byte, the final byte alone not acknowledged) and the bytes in RXDATA. That the
block takes its own steps once the agenda is empty is the model's choice (log entry 5). -/
def Obligations.ReadBytesTransaction : Prop :=
  ∀ (oss : BitVec 2) (s : State) (acks : List Bool) (d : List Byte) (final : Byte) (bytes : List Byte), transportReady s →
    s.agenda = [.access (.write 2 0x10#7 (commandWord 0x3#4 oss))] → s.peer.acks = true :: true :: true :: acks →
    s.peer.bytes = d ++ final :: bytes → (s.arg.extractLsb' 8 8).toNat = d.length + 1 → d.length < 32 →
    ∃ rx : Vector Byte 32,
      (∀ i : Fin 32, rx.get i = if i.val ≤ d.length then (d ++ [final]).getD i.val 0#8 else s.rxdata.get i) ∧
      Sys2Proof.core.run (d.length + 5) s = .next { endedAtOnce (commandWord 0x3#4 oss) .none s with
        agenda := []
        peer := { s.peer with acks := acks, bytes := bytes }
        ctl := { s.ctl with tr := false }
        i2ctxbuf := s.arg.extractLsb' 0 8
        i2crxbuf := final
        ifg := ⟨false, false, false⟩
        rxdata := rx
        trace := s.trace ++ rdTrace s.i2csa (s.arg.extractLsb' 0 8) d final }

/-- 43_calibration_store.md R210, R211, R212: with an acknowledging peer, READ_CAL reads 22 bytes from REG_CAL and fills the store, each
pair of bytes most significant first, RXDATA[0..21] in bus order, and sets CALV. That the block takes its own steps once the agenda is
empty is the model's choice (log entry 5). -/
def Obligations.ReadCalTransaction : Prop :=
  ∀ (oss : BitVec 2) (s : State) (acks : List Bool) (d : List Byte) (final : Byte) (bytes : List Byte), transportReady s →
    s.agenda = [.access (.write 2 0x10#7 (commandWord 0x4#4 oss))] → s.peer.acks = true :: true :: true :: acks →
    s.peer.bytes = d ++ final :: bytes → d.length = 21 →
    ∃ t : State, Sys2Proof.core.run 26 s = .next t ∧
      (∀ i : Fin 11, t.cal.get i = (d ++ [final]).getD (2 * i.val) 0#8 ++ (d ++ [final]).getD (2 * i.val + 1) 0#8) ∧
      t.status = ⟨false, true, true, false, .none⟩ ∧ t.eng = none ∧ t.phase = .idle ∧
      t.trace = s.trace ++ rdTrace s.i2csa s.cfg.regCal d final ∧
      (∀ i : Fin 32, t.rxdata.get i = if i.val < 22 then (d ++ [final]).getD i.val 0#8 else s.rxdata.get i) ∧
      t.ut = s.ut ∧ t.up = s.up ∧ t.t10 = s.t10 ∧ t.p = s.p ∧ t.b5 = s.b5 ∧ t.arg = s.arg

/-- 44_measurement.md R221, R222: with an acknowledging peer, MEASURE_T makes the temperature cycle, writes UT, and writes T10 on
success or reports the pipeline's error; RXDATA[0..1] hold the two bytes. That the block takes its own steps once the agenda is empty
is the model's choice (log entry 5). -/
def Obligations.MeasureTTransaction : Prop :=
  ∀ (oss : BitVec 2) (s : State) (acks : List Bool) (d0 d1 : Byte) (bytes : List Byte), transportReady s →
    s.status.calv = true → s.agenda = [.access (.write 2 0x10#7 (commandWord 0x5#4 oss))] →
    s.peer.acks = List.replicate 6 true ++ acks → s.peer.bytes = d0 :: d1 :: bytes →
    ∃ t : State, Sys2Proof.core.run 11 s = .next t ∧
      t.trace = s.trace ++ wrTrace s.i2csa 0xF4#8 0x2E#8 ++ [.convWait 4500] ++ rdTrace s.i2csa s.cfg.regOut [d0] d1 ∧
      t.ut = d0 ++ d1 ∧ t.eng = none ∧ t.phase = .idle ∧
      (∀ v, temp s.cfg.tempArith s.cal ((d0 ++ d1 : Word).toNat : Int) = .ok v →
        t.t10 = BitVec.ofInt 32 v ∧ t.status = ⟨false, true, true, false, .none⟩) ∧
      (∀ e, temp s.cfg.tempArith s.cal ((d0 ++ d1 : Word).toNat : Int) = .error e →
        t.t10 = s.t10 ∧ t.status = ⟨false, true, true, false, e⟩) ∧
      (∀ i : Fin 32, t.rxdata.get i = if i.val < 2 then [d0, d1].getD i.val 0#8 else s.rxdata.get i) ∧
      t.up = s.up ∧ t.p = s.p ∧ t.b5 = s.b5 ∧ t.cal = s.cal ∧ t.arg = s.arg

/-- 44_measurement.md R223 to R226: with an acknowledging peer, MEASURE_P makes the pressure cycle, then the temperature cycle, writes UP
and UT, and writes B5 and P on success or reports the pipeline's error; RXDATA[0..2] hold UT's two bytes and the last pressure byte.
That the block takes its own steps once the agenda is empty is the model's choice (log entry 5). -/
def Obligations.MeasurePTransaction : Prop :=
  ∀ (oss : BitVec 2) (s : State) (acks : List Bool) (p0 p1 p2 d0 d1 : Byte) (bytes : List Byte), transportReady s →
    s.status.calv = true → s.agenda = [.access (.write 2 0x10#7 (commandWord 0x6#4 oss))] →
    s.peer.acks = List.replicate 12 true ++ acks → s.peer.bytes = p0 :: p1 :: p2 :: d0 :: d1 :: bytes →
    let up : Nat := (p0.toNat * 65536 + p1.toNat * 256 + p2.toNat) / 2 ^ (8 - oss.toNat)
    let ut : Nat := d0.toNat * 256 + d1.toNat
    ∃ t : State, Sys2Proof.core.run 22 s = .next t ∧
      t.trace = s.trace ++ wrTrace s.i2csa 0xF4#8 (BitVec.ofNat 8 (0x34 + 64 * oss.toNat)) ++ [.convWait (pressConvTime oss)]
        ++ rdTrace s.i2csa s.cfg.regOut [p0, p1] p2 ++ wrTrace s.i2csa 0xF4#8 0x2E#8 ++ [.convWait 4500]
        ++ rdTrace s.i2csa s.cfg.regOut [d0] d1 ∧
      t.up.toNat = up ∧ t.ut.toNat = ut ∧ t.eng = none ∧ t.phase = .idle ∧
      (∀ b q, press s.cal (up : Int) (ut : Int) oss.toNat = .ok (b, q) →
        t.b5 = BitVec.ofInt 32 b ∧ t.p = BitVec.ofInt 32 q ∧ t.status = ⟨false, true, true, false, .none⟩) ∧
      (∀ e, press s.cal (up : Int) (ut : Int) oss.toNat = .error e →
        t.b5 = s.b5 ∧ t.p = s.p ∧ t.status = ⟨false, true, true, false, e⟩) ∧
      (∀ i : Fin 32, t.rxdata.get i = if i.val < 3 then [d0, d1, p2].getD i.val 0#8 else s.rxdata.get i) ∧
      t.t10 = s.t10 ∧ t.cal = s.cal ∧ t.arg = s.arg

/-! ## Pipeline -/

/-- 45_pipeline.md R243, TEMP_ARITH = REAL: the exact rational formula equals one floor division of integers, with the single DIV_ZERO
at X1 + MD = 0. -/
def Obligations.RealTemperatureIsOneFloorDivision : Prop :=
  ∀ (c : Cal) (ut : Int),
    let n := (ut - ac6 c) * ac5 c
    let e := n + md c * 32768
    temp .real c ut =
      if e = 0 then .error .divZero
      else chk32 (Int.fdiv (n * e + mc c * 2048 * 32768 * 32768 + 8 * 32768 * e) (16 * 32768 * e))

/-- Rounding to nearest even (45_pipeline.md R243): the result is a multiple of the unit in the last place with at most `prec`
significand bits, no further than half a unit away, and even at a tie. -/
def Obligations.FloatRoundingIsNearestEven : Prop :=
  ∀ (prec : Nat) (x : Rat), 1 ≤ prec → x ≠ 0 →
    twoPow (leadExp x) ≤ |x| ∧ |x| < twoPow (leadExp x + 1) ∧
    ∃ m : Int, fl prec x = m * twoPow (leadExp x - prec + 1) ∧ m.natAbs ≤ 2 ^ prec ∧
      2 * |fl prec x - x| ≤ twoPow (leadExp x - prec + 1) ∧
      (2 * |fl prec x - x| = twoPow (leadExp x - prec + 1) → m % 2 = 0)

/-- Under TEMP_ARITH = INT the temperature path and the pressure path agree on B5: T10 is fdiv(B5 + 8, 16) of the B5 a successful
PRESS returns, unless B5 + 8 overflows (45_pipeline.md R253). -/
def Obligations.IntegerPathsAgreeOnB5 : Prop :=
  (∀ (c : Cal) (up ut : Int) (oss : Nat) (b q : Int), press c up ut oss = .ok (b, q) →
    b5int c ut = .ok b ∧ temp .int c ut = .ok (Int.fdiv (b + 8) 16)) ∧
  (∀ (c : Cal) (up ut : Int) (oss : Nat) (e : Err), b5int c ut = .error e →
    press c up ut oss = .error e ∧ temp .int c ut = .error e)

/-- The source's worked examples: 150 in every arithmetic, and B5 = 2399, P = 69964 Pa (45_pipeline.md R243, R250; 95_test_vectors.md
E1, E2). -/
def Obligations.WorkedExamples : Prop :=
  let c : Cal := #v[0x0198#16, 0xFFB8#16, 0xC7D1#16, 0x7FE5#16, 0x7FF5#16, 0x5A71#16, 0x182E#16, 0x0004#16, 0x8000#16, 0xDDF9#16,
    0x0B34#16]
  (∀ m, temp m c 27898 = .ok 150) ∧ press c 23843 27898 0 = .ok (2399, 69964)

/-- Bad coefficients are caught where a divisor is 0: the all-zero store gives DIV_ZERO everywhere, and AC4 = 0 never gives a pressure
(43_calibration_store.md R214, 45_pipeline.md R247). -/
def Obligations.ZeroDivisorsAreReported : Prop :=
  (∀ (m : TempArith) (ut : Word), temp m (Vector.replicate 11 0#16) (ut.toNat : Int) = .error .divZero) ∧
  (∀ (up : Int) (ut : Word) (oss : Nat), press (Vector.replicate 11 0#16) up (ut.toNat : Int) oss = .error .divZero) ∧
  (∀ (c : Cal) (up ut : Int) (oss : Nat), c.get 3 = 0#16 → ∃ e, press c up ut oss = .error e)

/-- A successful result is a signed 32-bit number, so its register reads back as that number (10_state.md R56, R57, R58; 45_pipeline.md
R241). -/
def Obligations.ResultsFitTheirRegisters : Prop :=
  (∀ (m : TempArith) (c : Cal) (ut v : Int), temp m c ut = .ok v → (BitVec.ofInt 32 v).toInt = v) ∧
  (∀ (c : Cal) (up ut : Int) (oss : Nat) (b q : Int), press c up ut oss = .ok (b, q) →
    (BitVec.ofInt 32 b).toInt = b ∧ (BitVec.ofInt 32 q).toInt = q)

/-- 44_measurement.md R224: the raw pressure is the 24-bit value shifted right logically by 8 - oss, below 2^(16 + oss). -/
def Obligations.RawPressureAssembly : Prop :=
  ∀ (d0 d1 d2 : Byte) (oss : BitVec 2),
    (upOf [d0, d1, d2] oss).toNat = (d0.toNat * 65536 + d1.toNat * 256 + d2.toNat) / 2 ^ (8 - oss.toNat) ∧
    (upOf [d0, d1, d2] oss).toNat < 2 ^ (16 + oss.toNat) ∧ (upOf [d0, d1, d2] oss).toNat ≤ 524287
end

