-- ==== Sys2Proof/Laws/State.lean ====
section
/-! SUPPORT. What every plain update does to every field of the state, true by rfl and tagged simp, so that no later proof unfolds a record update. -/

namespace Sys2Proof.Machine

/-! log -/

@[simp] theorem log_ctl (s : State) (e : BusEvent) : (s.log e).ctl = s.ctl := rfl
@[simp] theorem log_i2cbrw (s : State) (e : BusEvent) : (s.log e).i2cbrw = s.i2cbrw := rfl
@[simp] theorem log_i2crxbuf (s : State) (e : BusEvent) : (s.log e).i2crxbuf = s.i2crxbuf := rfl
@[simp] theorem log_i2ctxbuf (s : State) (e : BusEvent) : (s.log e).i2ctxbuf = s.i2ctxbuf := rfl
@[simp] theorem log_i2csa (s : State) (e : BusEvent) : (s.log e).i2csa = s.i2csa := rfl
@[simp] theorem log_ifg (s : State) (e : BusEvent) : (s.log e).ifg = s.ifg := rfl
@[simp] theorem log_phase (s : State) (e : BusEvent) : (s.log e).phase = s.phase := rfl
@[simp] theorem log_txpending (s : State) (e : BusEvent) : (s.log e).txpending = s.txpending := rfl
@[simp] theorem log_cmd (s : State) (e : BusEvent) : (s.log e).cmd = s.cmd := rfl
@[simp] theorem log_arg (s : State) (e : BusEvent) : (s.log e).arg = s.arg := rfl
@[simp] theorem log_status (s : State) (e : BusEvent) : (s.log e).status = s.status := rfl
@[simp] theorem log_eng (s : State) (e : BusEvent) : (s.log e).eng = s.eng := rfl
@[simp] theorem log_ut (s : State) (e : BusEvent) : (s.log e).ut = s.ut := rfl
@[simp] theorem log_up (s : State) (e : BusEvent) : (s.log e).up = s.up := rfl
@[simp] theorem log_t10 (s : State) (e : BusEvent) : (s.log e).t10 = s.t10 := rfl
@[simp] theorem log_p (s : State) (e : BusEvent) : (s.log e).p = s.p := rfl
@[simp] theorem log_b5 (s : State) (e : BusEvent) : (s.log e).b5 = s.b5 := rfl
@[simp] theorem log_cal (s : State) (e : BusEvent) : (s.log e).cal = s.cal := rfl
@[simp] theorem log_rxdata (s : State) (e : BusEvent) : (s.log e).rxdata = s.rxdata := rfl
@[simp] theorem log_trace (s : State) (e : BusEvent) : (s.log e).trace = s.trace ++ [e] := rfl
@[simp] theorem log_reads (s : State) (e : BusEvent) : (s.log e).reads = s.reads := rfl
@[simp] theorem log_agenda (s : State) (e : BusEvent) : (s.log e).agenda = s.agenda := rfl
@[simp] theorem log_peer (s : State) (e : BusEvent) : (s.log e).peer = s.peer := rfl
@[simp] theorem log_cfg (s : State) (e : BusEvent) : (s.log e).cfg = s.cfg := rfl

/-! setRxifg -/

@[simp] theorem setRxifg_ctl (s : State) (b : Bool) : (s.setRxifg b).ctl = s.ctl := rfl
@[simp] theorem setRxifg_i2cbrw (s : State) (b : Bool) : (s.setRxifg b).i2cbrw = s.i2cbrw := rfl
@[simp] theorem setRxifg_i2crxbuf (s : State) (b : Bool) : (s.setRxifg b).i2crxbuf = s.i2crxbuf := rfl
@[simp] theorem setRxifg_i2ctxbuf (s : State) (b : Bool) : (s.setRxifg b).i2ctxbuf = s.i2ctxbuf := rfl
@[simp] theorem setRxifg_i2csa (s : State) (b : Bool) : (s.setRxifg b).i2csa = s.i2csa := rfl
@[simp] theorem setRxifg_ifg (s : State) (b : Bool) : (s.setRxifg b).ifg = { s.ifg with rxifg := b } := rfl
@[simp] theorem setRxifg_phase (s : State) (b : Bool) : (s.setRxifg b).phase = s.phase := rfl
@[simp] theorem setRxifg_txpending (s : State) (b : Bool) : (s.setRxifg b).txpending = s.txpending := rfl
@[simp] theorem setRxifg_cmd (s : State) (b : Bool) : (s.setRxifg b).cmd = s.cmd := rfl
@[simp] theorem setRxifg_arg (s : State) (b : Bool) : (s.setRxifg b).arg = s.arg := rfl
@[simp] theorem setRxifg_status (s : State) (b : Bool) : (s.setRxifg b).status = s.status := rfl
@[simp] theorem setRxifg_eng (s : State) (b : Bool) : (s.setRxifg b).eng = s.eng := rfl
@[simp] theorem setRxifg_ut (s : State) (b : Bool) : (s.setRxifg b).ut = s.ut := rfl
@[simp] theorem setRxifg_up (s : State) (b : Bool) : (s.setRxifg b).up = s.up := rfl
@[simp] theorem setRxifg_t10 (s : State) (b : Bool) : (s.setRxifg b).t10 = s.t10 := rfl
@[simp] theorem setRxifg_p (s : State) (b : Bool) : (s.setRxifg b).p = s.p := rfl
@[simp] theorem setRxifg_b5 (s : State) (b : Bool) : (s.setRxifg b).b5 = s.b5 := rfl
@[simp] theorem setRxifg_cal (s : State) (b : Bool) : (s.setRxifg b).cal = s.cal := rfl
@[simp] theorem setRxifg_rxdata (s : State) (b : Bool) : (s.setRxifg b).rxdata = s.rxdata := rfl
@[simp] theorem setRxifg_trace (s : State) (b : Bool) : (s.setRxifg b).trace = s.trace := rfl
@[simp] theorem setRxifg_reads (s : State) (b : Bool) : (s.setRxifg b).reads = s.reads := rfl
@[simp] theorem setRxifg_agenda (s : State) (b : Bool) : (s.setRxifg b).agenda = s.agenda := rfl
@[simp] theorem setRxifg_peer (s : State) (b : Bool) : (s.setRxifg b).peer = s.peer := rfl
@[simp] theorem setRxifg_cfg (s : State) (b : Bool) : (s.setRxifg b).cfg = s.cfg := rfl

/-! setTxifg -/

@[simp] theorem setTxifg_ctl (s : State) (b : Bool) : (s.setTxifg b).ctl = s.ctl := rfl
@[simp] theorem setTxifg_i2cbrw (s : State) (b : Bool) : (s.setTxifg b).i2cbrw = s.i2cbrw := rfl
@[simp] theorem setTxifg_i2crxbuf (s : State) (b : Bool) : (s.setTxifg b).i2crxbuf = s.i2crxbuf := rfl
@[simp] theorem setTxifg_i2ctxbuf (s : State) (b : Bool) : (s.setTxifg b).i2ctxbuf = s.i2ctxbuf := rfl
@[simp] theorem setTxifg_i2csa (s : State) (b : Bool) : (s.setTxifg b).i2csa = s.i2csa := rfl
@[simp] theorem setTxifg_ifg (s : State) (b : Bool) : (s.setTxifg b).ifg = { s.ifg with txifg := b } := rfl
@[simp] theorem setTxifg_phase (s : State) (b : Bool) : (s.setTxifg b).phase = s.phase := rfl
@[simp] theorem setTxifg_txpending (s : State) (b : Bool) : (s.setTxifg b).txpending = s.txpending := rfl
@[simp] theorem setTxifg_cmd (s : State) (b : Bool) : (s.setTxifg b).cmd = s.cmd := rfl
@[simp] theorem setTxifg_arg (s : State) (b : Bool) : (s.setTxifg b).arg = s.arg := rfl
@[simp] theorem setTxifg_status (s : State) (b : Bool) : (s.setTxifg b).status = s.status := rfl
@[simp] theorem setTxifg_eng (s : State) (b : Bool) : (s.setTxifg b).eng = s.eng := rfl
@[simp] theorem setTxifg_ut (s : State) (b : Bool) : (s.setTxifg b).ut = s.ut := rfl
@[simp] theorem setTxifg_up (s : State) (b : Bool) : (s.setTxifg b).up = s.up := rfl
@[simp] theorem setTxifg_t10 (s : State) (b : Bool) : (s.setTxifg b).t10 = s.t10 := rfl
@[simp] theorem setTxifg_p (s : State) (b : Bool) : (s.setTxifg b).p = s.p := rfl
@[simp] theorem setTxifg_b5 (s : State) (b : Bool) : (s.setTxifg b).b5 = s.b5 := rfl
@[simp] theorem setTxifg_cal (s : State) (b : Bool) : (s.setTxifg b).cal = s.cal := rfl
@[simp] theorem setTxifg_rxdata (s : State) (b : Bool) : (s.setTxifg b).rxdata = s.rxdata := rfl
@[simp] theorem setTxifg_trace (s : State) (b : Bool) : (s.setTxifg b).trace = s.trace := rfl
@[simp] theorem setTxifg_reads (s : State) (b : Bool) : (s.setTxifg b).reads = s.reads := rfl
@[simp] theorem setTxifg_agenda (s : State) (b : Bool) : (s.setTxifg b).agenda = s.agenda := rfl
@[simp] theorem setTxifg_peer (s : State) (b : Bool) : (s.setTxifg b).peer = s.peer := rfl
@[simp] theorem setTxifg_cfg (s : State) (b : Bool) : (s.setTxifg b).cfg = s.cfg := rfl

/-! setNackifg -/

@[simp] theorem setNackifg_ctl (s : State) : (s.setNackifg).ctl = s.ctl := rfl
@[simp] theorem setNackifg_i2cbrw (s : State) : (s.setNackifg).i2cbrw = s.i2cbrw := rfl
@[simp] theorem setNackifg_i2crxbuf (s : State) : (s.setNackifg).i2crxbuf = s.i2crxbuf := rfl
@[simp] theorem setNackifg_i2ctxbuf (s : State) : (s.setNackifg).i2ctxbuf = s.i2ctxbuf := rfl
@[simp] theorem setNackifg_i2csa (s : State) : (s.setNackifg).i2csa = s.i2csa := rfl
@[simp] theorem setNackifg_ifg (s : State) : (s.setNackifg).ifg = { s.ifg with nackifg := true } := rfl
@[simp] theorem setNackifg_phase (s : State) : (s.setNackifg).phase = s.phase := rfl
@[simp] theorem setNackifg_txpending (s : State) : (s.setNackifg).txpending = s.txpending := rfl
@[simp] theorem setNackifg_cmd (s : State) : (s.setNackifg).cmd = s.cmd := rfl
@[simp] theorem setNackifg_arg (s : State) : (s.setNackifg).arg = s.arg := rfl
@[simp] theorem setNackifg_status (s : State) : (s.setNackifg).status = s.status := rfl
@[simp] theorem setNackifg_eng (s : State) : (s.setNackifg).eng = s.eng := rfl
@[simp] theorem setNackifg_ut (s : State) : (s.setNackifg).ut = s.ut := rfl
@[simp] theorem setNackifg_up (s : State) : (s.setNackifg).up = s.up := rfl
@[simp] theorem setNackifg_t10 (s : State) : (s.setNackifg).t10 = s.t10 := rfl
@[simp] theorem setNackifg_p (s : State) : (s.setNackifg).p = s.p := rfl
@[simp] theorem setNackifg_b5 (s : State) : (s.setNackifg).b5 = s.b5 := rfl
@[simp] theorem setNackifg_cal (s : State) : (s.setNackifg).cal = s.cal := rfl
@[simp] theorem setNackifg_rxdata (s : State) : (s.setNackifg).rxdata = s.rxdata := rfl
@[simp] theorem setNackifg_trace (s : State) : (s.setNackifg).trace = s.trace := rfl
@[simp] theorem setNackifg_reads (s : State) : (s.setNackifg).reads = s.reads := rfl
@[simp] theorem setNackifg_agenda (s : State) : (s.setNackifg).agenda = s.agenda := rfl
@[simp] theorem setNackifg_peer (s : State) : (s.setNackifg).peer = s.peer := rfl
@[simp] theorem setNackifg_cfg (s : State) : (s.setNackifg).cfg = s.cfg := rfl

/-! setTxstt -/

@[simp] theorem setTxstt_ctl (s : State) (b : Bool) : (s.setTxstt b).ctl = { s.ctl with txstt := b } := rfl
@[simp] theorem setTxstt_i2cbrw (s : State) (b : Bool) : (s.setTxstt b).i2cbrw = s.i2cbrw := rfl
@[simp] theorem setTxstt_i2crxbuf (s : State) (b : Bool) : (s.setTxstt b).i2crxbuf = s.i2crxbuf := rfl
@[simp] theorem setTxstt_i2ctxbuf (s : State) (b : Bool) : (s.setTxstt b).i2ctxbuf = s.i2ctxbuf := rfl
@[simp] theorem setTxstt_i2csa (s : State) (b : Bool) : (s.setTxstt b).i2csa = s.i2csa := rfl
@[simp] theorem setTxstt_ifg (s : State) (b : Bool) : (s.setTxstt b).ifg = s.ifg := rfl
@[simp] theorem setTxstt_phase (s : State) (b : Bool) : (s.setTxstt b).phase = s.phase := rfl
@[simp] theorem setTxstt_txpending (s : State) (b : Bool) : (s.setTxstt b).txpending = s.txpending := rfl
@[simp] theorem setTxstt_cmd (s : State) (b : Bool) : (s.setTxstt b).cmd = s.cmd := rfl
@[simp] theorem setTxstt_arg (s : State) (b : Bool) : (s.setTxstt b).arg = s.arg := rfl
@[simp] theorem setTxstt_status (s : State) (b : Bool) : (s.setTxstt b).status = s.status := rfl
@[simp] theorem setTxstt_eng (s : State) (b : Bool) : (s.setTxstt b).eng = s.eng := rfl
@[simp] theorem setTxstt_ut (s : State) (b : Bool) : (s.setTxstt b).ut = s.ut := rfl
@[simp] theorem setTxstt_up (s : State) (b : Bool) : (s.setTxstt b).up = s.up := rfl
@[simp] theorem setTxstt_t10 (s : State) (b : Bool) : (s.setTxstt b).t10 = s.t10 := rfl
@[simp] theorem setTxstt_p (s : State) (b : Bool) : (s.setTxstt b).p = s.p := rfl
@[simp] theorem setTxstt_b5 (s : State) (b : Bool) : (s.setTxstt b).b5 = s.b5 := rfl
@[simp] theorem setTxstt_cal (s : State) (b : Bool) : (s.setTxstt b).cal = s.cal := rfl
@[simp] theorem setTxstt_rxdata (s : State) (b : Bool) : (s.setTxstt b).rxdata = s.rxdata := rfl
@[simp] theorem setTxstt_trace (s : State) (b : Bool) : (s.setTxstt b).trace = s.trace := rfl
@[simp] theorem setTxstt_reads (s : State) (b : Bool) : (s.setTxstt b).reads = s.reads := rfl
@[simp] theorem setTxstt_agenda (s : State) (b : Bool) : (s.setTxstt b).agenda = s.agenda := rfl
@[simp] theorem setTxstt_peer (s : State) (b : Bool) : (s.setTxstt b).peer = s.peer := rfl
@[simp] theorem setTxstt_cfg (s : State) (b : Bool) : (s.setTxstt b).cfg = s.cfg := rfl

/-! setTxstp -/

@[simp] theorem setTxstp_ctl (s : State) (b : Bool) : (s.setTxstp b).ctl = { s.ctl with txstp := b } := rfl
@[simp] theorem setTxstp_i2cbrw (s : State) (b : Bool) : (s.setTxstp b).i2cbrw = s.i2cbrw := rfl
@[simp] theorem setTxstp_i2crxbuf (s : State) (b : Bool) : (s.setTxstp b).i2crxbuf = s.i2crxbuf := rfl
@[simp] theorem setTxstp_i2ctxbuf (s : State) (b : Bool) : (s.setTxstp b).i2ctxbuf = s.i2ctxbuf := rfl
@[simp] theorem setTxstp_i2csa (s : State) (b : Bool) : (s.setTxstp b).i2csa = s.i2csa := rfl
@[simp] theorem setTxstp_ifg (s : State) (b : Bool) : (s.setTxstp b).ifg = s.ifg := rfl
@[simp] theorem setTxstp_phase (s : State) (b : Bool) : (s.setTxstp b).phase = s.phase := rfl
@[simp] theorem setTxstp_txpending (s : State) (b : Bool) : (s.setTxstp b).txpending = s.txpending := rfl
@[simp] theorem setTxstp_cmd (s : State) (b : Bool) : (s.setTxstp b).cmd = s.cmd := rfl
@[simp] theorem setTxstp_arg (s : State) (b : Bool) : (s.setTxstp b).arg = s.arg := rfl
@[simp] theorem setTxstp_status (s : State) (b : Bool) : (s.setTxstp b).status = s.status := rfl
@[simp] theorem setTxstp_eng (s : State) (b : Bool) : (s.setTxstp b).eng = s.eng := rfl
@[simp] theorem setTxstp_ut (s : State) (b : Bool) : (s.setTxstp b).ut = s.ut := rfl
@[simp] theorem setTxstp_up (s : State) (b : Bool) : (s.setTxstp b).up = s.up := rfl
@[simp] theorem setTxstp_t10 (s : State) (b : Bool) : (s.setTxstp b).t10 = s.t10 := rfl
@[simp] theorem setTxstp_p (s : State) (b : Bool) : (s.setTxstp b).p = s.p := rfl
@[simp] theorem setTxstp_b5 (s : State) (b : Bool) : (s.setTxstp b).b5 = s.b5 := rfl
@[simp] theorem setTxstp_cal (s : State) (b : Bool) : (s.setTxstp b).cal = s.cal := rfl
@[simp] theorem setTxstp_rxdata (s : State) (b : Bool) : (s.setTxstp b).rxdata = s.rxdata := rfl
@[simp] theorem setTxstp_trace (s : State) (b : Bool) : (s.setTxstp b).trace = s.trace := rfl
@[simp] theorem setTxstp_reads (s : State) (b : Bool) : (s.setTxstp b).reads = s.reads := rfl
@[simp] theorem setTxstp_agenda (s : State) (b : Bool) : (s.setTxstp b).agenda = s.agenda := rfl
@[simp] theorem setTxstp_peer (s : State) (b : Bool) : (s.setTxstp b).peer = s.peer := rfl
@[simp] theorem setTxstp_cfg (s : State) (b : Bool) : (s.setTxstp b).cfg = s.cfg := rfl

/-! setPhase -/

@[simp] theorem setPhase_ctl (s : State) (ph : Phase) : (s.setPhase ph).ctl = s.ctl := rfl
@[simp] theorem setPhase_i2cbrw (s : State) (ph : Phase) : (s.setPhase ph).i2cbrw = s.i2cbrw := rfl
@[simp] theorem setPhase_i2crxbuf (s : State) (ph : Phase) : (s.setPhase ph).i2crxbuf = s.i2crxbuf := rfl
@[simp] theorem setPhase_i2ctxbuf (s : State) (ph : Phase) : (s.setPhase ph).i2ctxbuf = s.i2ctxbuf := rfl
@[simp] theorem setPhase_i2csa (s : State) (ph : Phase) : (s.setPhase ph).i2csa = s.i2csa := rfl
@[simp] theorem setPhase_ifg (s : State) (ph : Phase) : (s.setPhase ph).ifg = s.ifg := rfl
@[simp] theorem setPhase_phase (s : State) (ph : Phase) : (s.setPhase ph).phase = ph := rfl
@[simp] theorem setPhase_txpending (s : State) (ph : Phase) : (s.setPhase ph).txpending = s.txpending := rfl
@[simp] theorem setPhase_cmd (s : State) (ph : Phase) : (s.setPhase ph).cmd = s.cmd := rfl
@[simp] theorem setPhase_arg (s : State) (ph : Phase) : (s.setPhase ph).arg = s.arg := rfl
@[simp] theorem setPhase_status (s : State) (ph : Phase) : (s.setPhase ph).status = s.status := rfl
@[simp] theorem setPhase_eng (s : State) (ph : Phase) : (s.setPhase ph).eng = s.eng := rfl
@[simp] theorem setPhase_ut (s : State) (ph : Phase) : (s.setPhase ph).ut = s.ut := rfl
@[simp] theorem setPhase_up (s : State) (ph : Phase) : (s.setPhase ph).up = s.up := rfl
@[simp] theorem setPhase_t10 (s : State) (ph : Phase) : (s.setPhase ph).t10 = s.t10 := rfl
@[simp] theorem setPhase_p (s : State) (ph : Phase) : (s.setPhase ph).p = s.p := rfl
@[simp] theorem setPhase_b5 (s : State) (ph : Phase) : (s.setPhase ph).b5 = s.b5 := rfl
@[simp] theorem setPhase_cal (s : State) (ph : Phase) : (s.setPhase ph).cal = s.cal := rfl
@[simp] theorem setPhase_rxdata (s : State) (ph : Phase) : (s.setPhase ph).rxdata = s.rxdata := rfl
@[simp] theorem setPhase_trace (s : State) (ph : Phase) : (s.setPhase ph).trace = s.trace := rfl
@[simp] theorem setPhase_reads (s : State) (ph : Phase) : (s.setPhase ph).reads = s.reads := rfl
@[simp] theorem setPhase_agenda (s : State) (ph : Phase) : (s.setPhase ph).agenda = s.agenda := rfl
@[simp] theorem setPhase_peer (s : State) (ph : Phase) : (s.setPhase ph).peer = s.peer := rfl
@[simp] theorem setPhase_cfg (s : State) (ph : Phase) : (s.setPhase ph).cfg = s.cfg := rfl

/-! setOvr -/

@[simp] theorem setOvr_ctl (s : State) : (s.setOvr).ctl = s.ctl := rfl
@[simp] theorem setOvr_i2cbrw (s : State) : (s.setOvr).i2cbrw = s.i2cbrw := rfl
@[simp] theorem setOvr_i2crxbuf (s : State) : (s.setOvr).i2crxbuf = s.i2crxbuf := rfl
@[simp] theorem setOvr_i2ctxbuf (s : State) : (s.setOvr).i2ctxbuf = s.i2ctxbuf := rfl
@[simp] theorem setOvr_i2csa (s : State) : (s.setOvr).i2csa = s.i2csa := rfl
@[simp] theorem setOvr_ifg (s : State) : (s.setOvr).ifg = s.ifg := rfl
@[simp] theorem setOvr_phase (s : State) : (s.setOvr).phase = s.phase := rfl
@[simp] theorem setOvr_txpending (s : State) : (s.setOvr).txpending = s.txpending := rfl
@[simp] theorem setOvr_cmd (s : State) : (s.setOvr).cmd = s.cmd := rfl
@[simp] theorem setOvr_arg (s : State) : (s.setOvr).arg = s.arg := rfl
@[simp] theorem setOvr_status (s : State) : (s.setOvr).status = { s.status with ovr := true } := rfl
@[simp] theorem setOvr_eng (s : State) : (s.setOvr).eng = s.eng := rfl
@[simp] theorem setOvr_ut (s : State) : (s.setOvr).ut = s.ut := rfl
@[simp] theorem setOvr_up (s : State) : (s.setOvr).up = s.up := rfl
@[simp] theorem setOvr_t10 (s : State) : (s.setOvr).t10 = s.t10 := rfl
@[simp] theorem setOvr_p (s : State) : (s.setOvr).p = s.p := rfl
@[simp] theorem setOvr_b5 (s : State) : (s.setOvr).b5 = s.b5 := rfl
@[simp] theorem setOvr_cal (s : State) : (s.setOvr).cal = s.cal := rfl
@[simp] theorem setOvr_rxdata (s : State) : (s.setOvr).rxdata = s.rxdata := rfl
@[simp] theorem setOvr_trace (s : State) : (s.setOvr).trace = s.trace := rfl
@[simp] theorem setOvr_reads (s : State) : (s.setOvr).reads = s.reads := rfl
@[simp] theorem setOvr_agenda (s : State) : (s.setOvr).agenda = s.agenda := rfl
@[simp] theorem setOvr_peer (s : State) : (s.setOvr).peer = s.peer := rfl
@[simp] theorem setOvr_cfg (s : State) : (s.setOvr).cfg = s.cfg := rfl

/-! raise -/

@[simp] theorem raise_ctl (e : Err) (s : State) : (raise e s).ctl = s.ctl := rfl
@[simp] theorem raise_i2cbrw (e : Err) (s : State) : (raise e s).i2cbrw = s.i2cbrw := rfl
@[simp] theorem raise_i2crxbuf (e : Err) (s : State) : (raise e s).i2crxbuf = s.i2crxbuf := rfl
@[simp] theorem raise_i2ctxbuf (e : Err) (s : State) : (raise e s).i2ctxbuf = s.i2ctxbuf := rfl
@[simp] theorem raise_i2csa (e : Err) (s : State) : (raise e s).i2csa = s.i2csa := rfl
@[simp] theorem raise_ifg (e : Err) (s : State) : (raise e s).ifg = s.ifg := rfl
@[simp] theorem raise_phase (e : Err) (s : State) : (raise e s).phase = s.phase := rfl
@[simp] theorem raise_txpending (e : Err) (s : State) : (raise e s).txpending = s.txpending := rfl
@[simp] theorem raise_cmd (e : Err) (s : State) : (raise e s).cmd = s.cmd := rfl
@[simp] theorem raise_arg (e : Err) (s : State) : (raise e s).arg = s.arg := rfl
@[simp] theorem raise_status (e : Err) (s : State) : (raise e s).status = { s.status with busy := false, done := true, err := e } := rfl
@[simp] theorem raise_eng (e : Err) (s : State) : (raise e s).eng = none := rfl
@[simp] theorem raise_ut (e : Err) (s : State) : (raise e s).ut = s.ut := rfl
@[simp] theorem raise_up (e : Err) (s : State) : (raise e s).up = s.up := rfl
@[simp] theorem raise_t10 (e : Err) (s : State) : (raise e s).t10 = s.t10 := rfl
@[simp] theorem raise_p (e : Err) (s : State) : (raise e s).p = s.p := rfl
@[simp] theorem raise_b5 (e : Err) (s : State) : (raise e s).b5 = s.b5 := rfl
@[simp] theorem raise_cal (e : Err) (s : State) : (raise e s).cal = s.cal := rfl
@[simp] theorem raise_rxdata (e : Err) (s : State) : (raise e s).rxdata = s.rxdata := rfl
@[simp] theorem raise_trace (e : Err) (s : State) : (raise e s).trace = s.trace := rfl
@[simp] theorem raise_reads (e : Err) (s : State) : (raise e s).reads = s.reads := rfl
@[simp] theorem raise_agenda (e : Err) (s : State) : (raise e s).agenda = s.agenda := rfl
@[simp] theorem raise_peer (e : Err) (s : State) : (raise e s).peer = s.peer := rfl
@[simp] theorem raise_cfg (e : Err) (s : State) : (raise e s).cfg = s.cfg := rfl

/-! done -/

@[simp] theorem done_ctl (s : State) : (done s).ctl = s.ctl := rfl
@[simp] theorem done_i2cbrw (s : State) : (done s).i2cbrw = s.i2cbrw := rfl
@[simp] theorem done_i2crxbuf (s : State) : (done s).i2crxbuf = s.i2crxbuf := rfl
@[simp] theorem done_i2ctxbuf (s : State) : (done s).i2ctxbuf = s.i2ctxbuf := rfl
@[simp] theorem done_i2csa (s : State) : (done s).i2csa = s.i2csa := rfl
@[simp] theorem done_ifg (s : State) : (done s).ifg = s.ifg := rfl
@[simp] theorem done_phase (s : State) : (done s).phase = s.phase := rfl
@[simp] theorem done_txpending (s : State) : (done s).txpending = s.txpending := rfl
@[simp] theorem done_cmd (s : State) : (done s).cmd = s.cmd := rfl
@[simp] theorem done_arg (s : State) : (done s).arg = s.arg := rfl
@[simp] theorem done_status (s : State) : (done s).status = { s.status with busy := false, done := true, err := .none } := rfl
@[simp] theorem done_eng (s : State) : (done s).eng = none := rfl
@[simp] theorem done_ut (s : State) : (done s).ut = s.ut := rfl
@[simp] theorem done_up (s : State) : (done s).up = s.up := rfl
@[simp] theorem done_t10 (s : State) : (done s).t10 = s.t10 := rfl
@[simp] theorem done_p (s : State) : (done s).p = s.p := rfl
@[simp] theorem done_b5 (s : State) : (done s).b5 = s.b5 := rfl
@[simp] theorem done_cal (s : State) : (done s).cal = s.cal := rfl
@[simp] theorem done_rxdata (s : State) : (done s).rxdata = s.rxdata := rfl
@[simp] theorem done_trace (s : State) : (done s).trace = s.trace := rfl
@[simp] theorem done_reads (s : State) : (done s).reads = s.reads := rfl
@[simp] theorem done_agenda (s : State) : (done s).agenda = s.agenda := rfl
@[simp] theorem done_peer (s : State) : (done s).peer = s.peer := rfl
@[simp] theorem done_cfg (s : State) : (done s).cfg = s.cfg := rfl

/-! writeConfig -/

@[simp] theorem writeConfig_ctl (w : CtlWrite) (s : State) : (writeConfig w s).ctl = { s.ctl with
      swrst := w.swrst, tr := w.tr, ssel := w.ssel, sync := w.sync, mode := w.mode, mst := w.mst } := rfl
@[simp] theorem writeConfig_i2cbrw (w : CtlWrite) (s : State) : (writeConfig w s).i2cbrw = s.i2cbrw := rfl
@[simp] theorem writeConfig_i2crxbuf (w : CtlWrite) (s : State) : (writeConfig w s).i2crxbuf = s.i2crxbuf := rfl
@[simp] theorem writeConfig_i2ctxbuf (w : CtlWrite) (s : State) : (writeConfig w s).i2ctxbuf = s.i2ctxbuf := rfl
@[simp] theorem writeConfig_i2csa (w : CtlWrite) (s : State) : (writeConfig w s).i2csa = s.i2csa := rfl
@[simp] theorem writeConfig_ifg (w : CtlWrite) (s : State) : (writeConfig w s).ifg = s.ifg := rfl
@[simp] theorem writeConfig_phase (w : CtlWrite) (s : State) : (writeConfig w s).phase = s.phase := rfl
@[simp] theorem writeConfig_txpending (w : CtlWrite) (s : State) : (writeConfig w s).txpending = s.txpending := rfl
@[simp] theorem writeConfig_cmd (w : CtlWrite) (s : State) : (writeConfig w s).cmd = s.cmd := rfl
@[simp] theorem writeConfig_arg (w : CtlWrite) (s : State) : (writeConfig w s).arg = s.arg := rfl
@[simp] theorem writeConfig_status (w : CtlWrite) (s : State) : (writeConfig w s).status = s.status := rfl
@[simp] theorem writeConfig_eng (w : CtlWrite) (s : State) : (writeConfig w s).eng = s.eng := rfl
@[simp] theorem writeConfig_ut (w : CtlWrite) (s : State) : (writeConfig w s).ut = s.ut := rfl
@[simp] theorem writeConfig_up (w : CtlWrite) (s : State) : (writeConfig w s).up = s.up := rfl
@[simp] theorem writeConfig_t10 (w : CtlWrite) (s : State) : (writeConfig w s).t10 = s.t10 := rfl
@[simp] theorem writeConfig_p (w : CtlWrite) (s : State) : (writeConfig w s).p = s.p := rfl
@[simp] theorem writeConfig_b5 (w : CtlWrite) (s : State) : (writeConfig w s).b5 = s.b5 := rfl
@[simp] theorem writeConfig_cal (w : CtlWrite) (s : State) : (writeConfig w s).cal = s.cal := rfl
@[simp] theorem writeConfig_rxdata (w : CtlWrite) (s : State) : (writeConfig w s).rxdata = s.rxdata := rfl
@[simp] theorem writeConfig_trace (w : CtlWrite) (s : State) : (writeConfig w s).trace = s.trace := rfl
@[simp] theorem writeConfig_reads (w : CtlWrite) (s : State) : (writeConfig w s).reads = s.reads := rfl
@[simp] theorem writeConfig_agenda (w : CtlWrite) (s : State) : (writeConfig w s).agenda = s.agenda := rfl
@[simp] theorem writeConfig_peer (w : CtlWrite) (s : State) : (writeConfig w s).peer = s.peer := rfl
@[simp] theorem writeConfig_cfg (w : CtlWrite) (s : State) : (writeConfig w s).cfg = s.cfg := rfl

/-! writeSa -/

@[simp] theorem writeSa_ctl (a : BitVec 7) (s : State) : (writeSa a s).ctl = s.ctl := rfl
@[simp] theorem writeSa_i2cbrw (a : BitVec 7) (s : State) : (writeSa a s).i2cbrw = s.i2cbrw := rfl
@[simp] theorem writeSa_i2crxbuf (a : BitVec 7) (s : State) : (writeSa a s).i2crxbuf = s.i2crxbuf := rfl
@[simp] theorem writeSa_i2ctxbuf (a : BitVec 7) (s : State) : (writeSa a s).i2ctxbuf = s.i2ctxbuf := rfl
@[simp] theorem writeSa_i2csa (a : BitVec 7) (s : State) : (writeSa a s).i2csa = a := rfl
@[simp] theorem writeSa_ifg (a : BitVec 7) (s : State) : (writeSa a s).ifg = s.ifg := rfl
@[simp] theorem writeSa_phase (a : BitVec 7) (s : State) : (writeSa a s).phase = s.phase := rfl
@[simp] theorem writeSa_txpending (a : BitVec 7) (s : State) : (writeSa a s).txpending = s.txpending := rfl
@[simp] theorem writeSa_cmd (a : BitVec 7) (s : State) : (writeSa a s).cmd = s.cmd := rfl
@[simp] theorem writeSa_arg (a : BitVec 7) (s : State) : (writeSa a s).arg = s.arg := rfl
@[simp] theorem writeSa_status (a : BitVec 7) (s : State) : (writeSa a s).status = s.status := rfl
@[simp] theorem writeSa_eng (a : BitVec 7) (s : State) : (writeSa a s).eng = s.eng := rfl
@[simp] theorem writeSa_ut (a : BitVec 7) (s : State) : (writeSa a s).ut = s.ut := rfl
@[simp] theorem writeSa_up (a : BitVec 7) (s : State) : (writeSa a s).up = s.up := rfl
@[simp] theorem writeSa_t10 (a : BitVec 7) (s : State) : (writeSa a s).t10 = s.t10 := rfl
@[simp] theorem writeSa_p (a : BitVec 7) (s : State) : (writeSa a s).p = s.p := rfl
@[simp] theorem writeSa_b5 (a : BitVec 7) (s : State) : (writeSa a s).b5 = s.b5 := rfl
@[simp] theorem writeSa_cal (a : BitVec 7) (s : State) : (writeSa a s).cal = s.cal := rfl
@[simp] theorem writeSa_rxdata (a : BitVec 7) (s : State) : (writeSa a s).rxdata = s.rxdata := rfl
@[simp] theorem writeSa_trace (a : BitVec 7) (s : State) : (writeSa a s).trace = s.trace := rfl
@[simp] theorem writeSa_reads (a : BitVec 7) (s : State) : (writeSa a s).reads = s.reads := rfl
@[simp] theorem writeSa_agenda (a : BitVec 7) (s : State) : (writeSa a s).agenda = s.agenda := rfl
@[simp] theorem writeSa_peer (a : BitVec 7) (s : State) : (writeSa a s).peer = s.peer := rfl
@[simp] theorem writeSa_cfg (a : BitVec 7) (s : State) : (writeSa a s).cfg = s.cfg := rfl

/-! writeBrw -/

@[simp] theorem writeBrw_ctl (d : Word) (s : State) : (writeBrw d s).ctl = s.ctl := rfl
@[simp] theorem writeBrw_i2cbrw (d : Word) (s : State) : (writeBrw d s).i2cbrw = d := rfl
@[simp] theorem writeBrw_i2crxbuf (d : Word) (s : State) : (writeBrw d s).i2crxbuf = s.i2crxbuf := rfl
@[simp] theorem writeBrw_i2ctxbuf (d : Word) (s : State) : (writeBrw d s).i2ctxbuf = s.i2ctxbuf := rfl
@[simp] theorem writeBrw_i2csa (d : Word) (s : State) : (writeBrw d s).i2csa = s.i2csa := rfl
@[simp] theorem writeBrw_ifg (d : Word) (s : State) : (writeBrw d s).ifg = s.ifg := rfl
@[simp] theorem writeBrw_phase (d : Word) (s : State) : (writeBrw d s).phase = s.phase := rfl
@[simp] theorem writeBrw_txpending (d : Word) (s : State) : (writeBrw d s).txpending = s.txpending := rfl
@[simp] theorem writeBrw_cmd (d : Word) (s : State) : (writeBrw d s).cmd = s.cmd := rfl
@[simp] theorem writeBrw_arg (d : Word) (s : State) : (writeBrw d s).arg = s.arg := rfl
@[simp] theorem writeBrw_status (d : Word) (s : State) : (writeBrw d s).status = s.status := rfl
@[simp] theorem writeBrw_eng (d : Word) (s : State) : (writeBrw d s).eng = s.eng := rfl
@[simp] theorem writeBrw_ut (d : Word) (s : State) : (writeBrw d s).ut = s.ut := rfl
@[simp] theorem writeBrw_up (d : Word) (s : State) : (writeBrw d s).up = s.up := rfl
@[simp] theorem writeBrw_t10 (d : Word) (s : State) : (writeBrw d s).t10 = s.t10 := rfl
@[simp] theorem writeBrw_p (d : Word) (s : State) : (writeBrw d s).p = s.p := rfl
@[simp] theorem writeBrw_b5 (d : Word) (s : State) : (writeBrw d s).b5 = s.b5 := rfl
@[simp] theorem writeBrw_cal (d : Word) (s : State) : (writeBrw d s).cal = s.cal := rfl
@[simp] theorem writeBrw_rxdata (d : Word) (s : State) : (writeBrw d s).rxdata = s.rxdata := rfl
@[simp] theorem writeBrw_trace (d : Word) (s : State) : (writeBrw d s).trace = s.trace := rfl
@[simp] theorem writeBrw_reads (d : Word) (s : State) : (writeBrw d s).reads = s.reads := rfl
@[simp] theorem writeBrw_agenda (d : Word) (s : State) : (writeBrw d s).agenda = s.agenda := rfl
@[simp] theorem writeBrw_peer (d : Word) (s : State) : (writeBrw d s).peer = s.peer := rfl
@[simp] theorem writeBrw_cfg (d : Word) (s : State) : (writeBrw d s).cfg = s.cfg := rfl

/-! advance -/

@[simp] theorem advance_ctl (s : State) : (advance s).ctl = s.ctl := rfl
@[simp] theorem advance_i2cbrw (s : State) : (advance s).i2cbrw = s.i2cbrw := rfl
@[simp] theorem advance_i2crxbuf (s : State) : (advance s).i2crxbuf = s.i2crxbuf := rfl
@[simp] theorem advance_i2ctxbuf (s : State) : (advance s).i2ctxbuf = s.i2ctxbuf := rfl
@[simp] theorem advance_i2csa (s : State) : (advance s).i2csa = s.i2csa := rfl
@[simp] theorem advance_ifg (s : State) : (advance s).ifg = s.ifg := rfl
@[simp] theorem advance_phase (s : State) : (advance s).phase = s.phase := rfl
@[simp] theorem advance_txpending (s : State) : (advance s).txpending = s.txpending := rfl
@[simp] theorem advance_cmd (s : State) : (advance s).cmd = s.cmd := rfl
@[simp] theorem advance_arg (s : State) : (advance s).arg = s.arg := rfl
@[simp] theorem advance_status (s : State) : (advance s).status = s.status := rfl
@[simp] theorem advance_eng (s : State) : (advance s).eng = s.eng.map fun r => { r with pos := r.pos + 1 } := rfl
@[simp] theorem advance_ut (s : State) : (advance s).ut = s.ut := rfl
@[simp] theorem advance_up (s : State) : (advance s).up = s.up := rfl
@[simp] theorem advance_t10 (s : State) : (advance s).t10 = s.t10 := rfl
@[simp] theorem advance_p (s : State) : (advance s).p = s.p := rfl
@[simp] theorem advance_b5 (s : State) : (advance s).b5 = s.b5 := rfl
@[simp] theorem advance_cal (s : State) : (advance s).cal = s.cal := rfl
@[simp] theorem advance_rxdata (s : State) : (advance s).rxdata = s.rxdata := rfl
@[simp] theorem advance_trace (s : State) : (advance s).trace = s.trace := rfl
@[simp] theorem advance_reads (s : State) : (advance s).reads = s.reads := rfl
@[simp] theorem advance_agenda (s : State) : (advance s).agenda = s.agenda := rfl
@[simp] theorem advance_peer (s : State) : (advance s).peer = s.peer := rfl
@[simp] theorem advance_cfg (s : State) : (advance s).cfg = s.cfg := rfl

/-! setLocalBytes -/

@[simp] theorem setLocalBytes_ctl (d : List Byte) (s : State) : (setLocalBytes d s).ctl = s.ctl := rfl
@[simp] theorem setLocalBytes_i2cbrw (d : List Byte) (s : State) : (setLocalBytes d s).i2cbrw = s.i2cbrw := rfl
@[simp] theorem setLocalBytes_i2crxbuf (d : List Byte) (s : State) : (setLocalBytes d s).i2crxbuf = s.i2crxbuf := rfl
@[simp] theorem setLocalBytes_i2ctxbuf (d : List Byte) (s : State) : (setLocalBytes d s).i2ctxbuf = s.i2ctxbuf := rfl
@[simp] theorem setLocalBytes_i2csa (d : List Byte) (s : State) : (setLocalBytes d s).i2csa = s.i2csa := rfl
@[simp] theorem setLocalBytes_ifg (d : List Byte) (s : State) : (setLocalBytes d s).ifg = s.ifg := rfl
@[simp] theorem setLocalBytes_phase (d : List Byte) (s : State) : (setLocalBytes d s).phase = s.phase := rfl
@[simp] theorem setLocalBytes_txpending (d : List Byte) (s : State) : (setLocalBytes d s).txpending = s.txpending := rfl
@[simp] theorem setLocalBytes_cmd (d : List Byte) (s : State) : (setLocalBytes d s).cmd = s.cmd := rfl
@[simp] theorem setLocalBytes_arg (d : List Byte) (s : State) : (setLocalBytes d s).arg = s.arg := rfl
@[simp] theorem setLocalBytes_status (d : List Byte) (s : State) : (setLocalBytes d s).status = s.status := rfl
@[simp] theorem setLocalBytes_eng (d : List Byte) (s : State) : (setLocalBytes d s).eng = s.eng.map fun r => { r with bytes := d } := rfl
@[simp] theorem setLocalBytes_ut (d : List Byte) (s : State) : (setLocalBytes d s).ut = s.ut := rfl
@[simp] theorem setLocalBytes_up (d : List Byte) (s : State) : (setLocalBytes d s).up = s.up := rfl
@[simp] theorem setLocalBytes_t10 (d : List Byte) (s : State) : (setLocalBytes d s).t10 = s.t10 := rfl
@[simp] theorem setLocalBytes_p (d : List Byte) (s : State) : (setLocalBytes d s).p = s.p := rfl
@[simp] theorem setLocalBytes_b5 (d : List Byte) (s : State) : (setLocalBytes d s).b5 = s.b5 := rfl
@[simp] theorem setLocalBytes_cal (d : List Byte) (s : State) : (setLocalBytes d s).cal = s.cal := rfl
@[simp] theorem setLocalBytes_rxdata (d : List Byte) (s : State) : (setLocalBytes d s).rxdata = s.rxdata := rfl
@[simp] theorem setLocalBytes_trace (d : List Byte) (s : State) : (setLocalBytes d s).trace = s.trace := rfl
@[simp] theorem setLocalBytes_reads (d : List Byte) (s : State) : (setLocalBytes d s).reads = s.reads := rfl
@[simp] theorem setLocalBytes_agenda (d : List Byte) (s : State) : (setLocalBytes d s).agenda = s.agenda := rfl
@[simp] theorem setLocalBytes_peer (d : List Byte) (s : State) : (setLocalBytes d s).peer = s.peer := rfl
@[simp] theorem setLocalBytes_cfg (d : List Byte) (s : State) : (setLocalBytes d s).cfg = s.cfg := rfl

/-! noteRead -/

@[simp] theorem noteRead_ctl (v : Word) (s : State) : (noteRead v s).ctl = s.ctl := rfl
@[simp] theorem noteRead_i2cbrw (v : Word) (s : State) : (noteRead v s).i2cbrw = s.i2cbrw := rfl
@[simp] theorem noteRead_i2crxbuf (v : Word) (s : State) : (noteRead v s).i2crxbuf = s.i2crxbuf := rfl
@[simp] theorem noteRead_i2ctxbuf (v : Word) (s : State) : (noteRead v s).i2ctxbuf = s.i2ctxbuf := rfl
@[simp] theorem noteRead_i2csa (v : Word) (s : State) : (noteRead v s).i2csa = s.i2csa := rfl
@[simp] theorem noteRead_ifg (v : Word) (s : State) : (noteRead v s).ifg = s.ifg := rfl
@[simp] theorem noteRead_phase (v : Word) (s : State) : (noteRead v s).phase = s.phase := rfl
@[simp] theorem noteRead_txpending (v : Word) (s : State) : (noteRead v s).txpending = s.txpending := rfl
@[simp] theorem noteRead_cmd (v : Word) (s : State) : (noteRead v s).cmd = s.cmd := rfl
@[simp] theorem noteRead_arg (v : Word) (s : State) : (noteRead v s).arg = s.arg := rfl
@[simp] theorem noteRead_status (v : Word) (s : State) : (noteRead v s).status = s.status := rfl
@[simp] theorem noteRead_eng (v : Word) (s : State) : (noteRead v s).eng = s.eng := rfl
@[simp] theorem noteRead_ut (v : Word) (s : State) : (noteRead v s).ut = s.ut := rfl
@[simp] theorem noteRead_up (v : Word) (s : State) : (noteRead v s).up = s.up := rfl
@[simp] theorem noteRead_t10 (v : Word) (s : State) : (noteRead v s).t10 = s.t10 := rfl
@[simp] theorem noteRead_p (v : Word) (s : State) : (noteRead v s).p = s.p := rfl
@[simp] theorem noteRead_b5 (v : Word) (s : State) : (noteRead v s).b5 = s.b5 := rfl
@[simp] theorem noteRead_cal (v : Word) (s : State) : (noteRead v s).cal = s.cal := rfl
@[simp] theorem noteRead_rxdata (v : Word) (s : State) : (noteRead v s).rxdata = s.rxdata := rfl
@[simp] theorem noteRead_trace (v : Word) (s : State) : (noteRead v s).trace = s.trace := rfl
@[simp] theorem noteRead_reads (v : Word) (s : State) : (noteRead v s).reads = s.reads ++ [v] := rfl
@[simp] theorem noteRead_agenda (v : Word) (s : State) : (noteRead v s).agenda = s.agenda := rfl
@[simp] theorem noteRead_peer (v : Word) (s : State) : (noteRead v s).peer = s.peer := rfl
@[simp] theorem noteRead_cfg (v : Word) (s : State) : (noteRead v s).cfg = s.cfg := rfl

/-! acceptWord -/

@[simp] theorem acceptWord_ctl (w : Word) (s : State) : (acceptWord w s).ctl = s.ctl := rfl
@[simp] theorem acceptWord_i2cbrw (w : Word) (s : State) : (acceptWord w s).i2cbrw = s.i2cbrw := rfl
@[simp] theorem acceptWord_i2crxbuf (w : Word) (s : State) : (acceptWord w s).i2crxbuf = s.i2crxbuf := rfl
@[simp] theorem acceptWord_i2ctxbuf (w : Word) (s : State) : (acceptWord w s).i2ctxbuf = s.i2ctxbuf := rfl
@[simp] theorem acceptWord_i2csa (w : Word) (s : State) : (acceptWord w s).i2csa = s.i2csa := rfl
@[simp] theorem acceptWord_ifg (w : Word) (s : State) : (acceptWord w s).ifg = s.ifg := rfl
@[simp] theorem acceptWord_phase (w : Word) (s : State) : (acceptWord w s).phase = s.phase := rfl
@[simp] theorem acceptWord_txpending (w : Word) (s : State) : (acceptWord w s).txpending = s.txpending := rfl
@[simp] theorem acceptWord_cmd (w : Word) (s : State) : (acceptWord w s).cmd = w := rfl
@[simp] theorem acceptWord_arg (w : Word) (s : State) : (acceptWord w s).arg = s.arg := rfl
@[simp] theorem acceptWord_status (w : Word) (s : State) : (acceptWord w s).status = { s.status with ovr := false, done := false, err := .none } := rfl
@[simp] theorem acceptWord_eng (w : Word) (s : State) : (acceptWord w s).eng = s.eng := rfl
@[simp] theorem acceptWord_ut (w : Word) (s : State) : (acceptWord w s).ut = s.ut := rfl
@[simp] theorem acceptWord_up (w : Word) (s : State) : (acceptWord w s).up = s.up := rfl
@[simp] theorem acceptWord_t10 (w : Word) (s : State) : (acceptWord w s).t10 = s.t10 := rfl
@[simp] theorem acceptWord_p (w : Word) (s : State) : (acceptWord w s).p = s.p := rfl
@[simp] theorem acceptWord_b5 (w : Word) (s : State) : (acceptWord w s).b5 = s.b5 := rfl
@[simp] theorem acceptWord_cal (w : Word) (s : State) : (acceptWord w s).cal = s.cal := rfl
@[simp] theorem acceptWord_rxdata (w : Word) (s : State) : (acceptWord w s).rxdata = s.rxdata := rfl
@[simp] theorem acceptWord_trace (w : Word) (s : State) : (acceptWord w s).trace = s.trace := rfl
@[simp] theorem acceptWord_reads (w : Word) (s : State) : (acceptWord w s).reads = s.reads := rfl
@[simp] theorem acceptWord_agenda (w : Word) (s : State) : (acceptWord w s).agenda = s.agenda := rfl
@[simp] theorem acceptWord_peer (w : Word) (s : State) : (acceptWord w s).peer = s.peer := rfl
@[simp] theorem acceptWord_cfg (w : Word) (s : State) : (acceptWord w s).cfg = s.cfg := rfl

/-! takeCommand -/

@[simp] theorem takeCommand_ctl (w : Word) (c : Command) (s : State) : (takeCommand w c s).ctl = s.ctl := rfl
@[simp] theorem takeCommand_i2cbrw (w : Word) (c : Command) (s : State) : (takeCommand w c s).i2cbrw = s.i2cbrw := rfl
@[simp] theorem takeCommand_i2crxbuf (w : Word) (c : Command) (s : State) : (takeCommand w c s).i2crxbuf = s.i2crxbuf := rfl
@[simp] theorem takeCommand_i2ctxbuf (w : Word) (c : Command) (s : State) : (takeCommand w c s).i2ctxbuf = s.i2ctxbuf := rfl
@[simp] theorem takeCommand_i2csa (w : Word) (c : Command) (s : State) : (takeCommand w c s).i2csa = s.i2csa := rfl
@[simp] theorem takeCommand_ifg (w : Word) (c : Command) (s : State) : (takeCommand w c s).ifg = s.ifg := rfl
@[simp] theorem takeCommand_phase (w : Word) (c : Command) (s : State) : (takeCommand w c s).phase = s.phase := rfl
@[simp] theorem takeCommand_txpending (w : Word) (c : Command) (s : State) : (takeCommand w c s).txpending = s.txpending := rfl
@[simp] theorem takeCommand_cmd (w : Word) (c : Command) (s : State) : (takeCommand w c s).cmd = s.cmd := rfl
@[simp] theorem takeCommand_arg (w : Word) (c : Command) (s : State) : (takeCommand w c s).arg = s.arg := rfl
@[simp] theorem takeCommand_status (w : Word) (c : Command) (s : State) : (takeCommand w c s).status = { s.status with busy := true } := rfl
@[simp] theorem takeCommand_eng (w : Word) (c : Command) (s : State) : (takeCommand w c s).eng = some { cmd := c, arg := s.arg, oss := wordOss w, pos := 0, bytes := [] } := rfl
@[simp] theorem takeCommand_ut (w : Word) (c : Command) (s : State) : (takeCommand w c s).ut = s.ut := rfl
@[simp] theorem takeCommand_up (w : Word) (c : Command) (s : State) : (takeCommand w c s).up = s.up := rfl
@[simp] theorem takeCommand_t10 (w : Word) (c : Command) (s : State) : (takeCommand w c s).t10 = s.t10 := rfl
@[simp] theorem takeCommand_p (w : Word) (c : Command) (s : State) : (takeCommand w c s).p = s.p := rfl
@[simp] theorem takeCommand_b5 (w : Word) (c : Command) (s : State) : (takeCommand w c s).b5 = s.b5 := rfl
@[simp] theorem takeCommand_cal (w : Word) (c : Command) (s : State) : (takeCommand w c s).cal = s.cal := rfl
@[simp] theorem takeCommand_rxdata (w : Word) (c : Command) (s : State) : (takeCommand w c s).rxdata = s.rxdata := rfl
@[simp] theorem takeCommand_trace (w : Word) (c : Command) (s : State) : (takeCommand w c s).trace = s.trace := rfl
@[simp] theorem takeCommand_reads (w : Word) (c : Command) (s : State) : (takeCommand w c s).reads = s.reads := rfl
@[simp] theorem takeCommand_agenda (w : Word) (c : Command) (s : State) : (takeCommand w c s).agenda = s.agenda := rfl
@[simp] theorem takeCommand_peer (w : Word) (c : Command) (s : State) : (takeCommand w c s).peer = s.peer := rfl
@[simp] theorem takeCommand_cfg (w : Word) (c : Command) (s : State) : (takeCommand w c s).cfg = s.cfg := rfl

/-! drawAck: only the peer's answers move on -/

@[simp] theorem drawAck_ctl (s : State) : (drawAck s).2.ctl = s.ctl := by unfold drawAck; split <;> rfl
@[simp] theorem drawAck_i2cbrw (s : State) : (drawAck s).2.i2cbrw = s.i2cbrw := by unfold drawAck; split <;> rfl
@[simp] theorem drawAck_i2crxbuf (s : State) : (drawAck s).2.i2crxbuf = s.i2crxbuf := by unfold drawAck; split <;> rfl
@[simp] theorem drawAck_i2ctxbuf (s : State) : (drawAck s).2.i2ctxbuf = s.i2ctxbuf := by unfold drawAck; split <;> rfl
@[simp] theorem drawAck_i2csa (s : State) : (drawAck s).2.i2csa = s.i2csa := by unfold drawAck; split <;> rfl
@[simp] theorem drawAck_ifg (s : State) : (drawAck s).2.ifg = s.ifg := by unfold drawAck; split <;> rfl
@[simp] theorem drawAck_phase (s : State) : (drawAck s).2.phase = s.phase := by unfold drawAck; split <;> rfl
@[simp] theorem drawAck_txpending (s : State) : (drawAck s).2.txpending = s.txpending := by unfold drawAck; split <;> rfl
@[simp] theorem drawAck_cmd (s : State) : (drawAck s).2.cmd = s.cmd := by unfold drawAck; split <;> rfl
@[simp] theorem drawAck_arg (s : State) : (drawAck s).2.arg = s.arg := by unfold drawAck; split <;> rfl
@[simp] theorem drawAck_status (s : State) : (drawAck s).2.status = s.status := by unfold drawAck; split <;> rfl
@[simp] theorem drawAck_eng (s : State) : (drawAck s).2.eng = s.eng := by unfold drawAck; split <;> rfl
@[simp] theorem drawAck_ut (s : State) : (drawAck s).2.ut = s.ut := by unfold drawAck; split <;> rfl
@[simp] theorem drawAck_up (s : State) : (drawAck s).2.up = s.up := by unfold drawAck; split <;> rfl
@[simp] theorem drawAck_t10 (s : State) : (drawAck s).2.t10 = s.t10 := by unfold drawAck; split <;> rfl
@[simp] theorem drawAck_p (s : State) : (drawAck s).2.p = s.p := by unfold drawAck; split <;> rfl
@[simp] theorem drawAck_b5 (s : State) : (drawAck s).2.b5 = s.b5 := by unfold drawAck; split <;> rfl
@[simp] theorem drawAck_cal (s : State) : (drawAck s).2.cal = s.cal := by unfold drawAck; split <;> rfl
@[simp] theorem drawAck_rxdata (s : State) : (drawAck s).2.rxdata = s.rxdata := by unfold drawAck; split <;> rfl
@[simp] theorem drawAck_trace (s : State) : (drawAck s).2.trace = s.trace := by unfold drawAck; split <;> rfl
@[simp] theorem drawAck_reads (s : State) : (drawAck s).2.reads = s.reads := by unfold drawAck; split <;> rfl
@[simp] theorem drawAck_agenda (s : State) : (drawAck s).2.agenda = s.agenda := by unfold drawAck; split <;> rfl
@[simp] theorem drawAck_cfg (s : State) : (drawAck s).2.cfg = s.cfg := by unfold drawAck; split <;> rfl

/-! drawByte: only the peer's answers move on -/

@[simp] theorem drawByte_ctl (s : State) : (drawByte s).2.ctl = s.ctl := by unfold drawByte; split <;> rfl
@[simp] theorem drawByte_i2cbrw (s : State) : (drawByte s).2.i2cbrw = s.i2cbrw := by unfold drawByte; split <;> rfl
@[simp] theorem drawByte_i2crxbuf (s : State) : (drawByte s).2.i2crxbuf = s.i2crxbuf := by unfold drawByte; split <;> rfl
@[simp] theorem drawByte_i2ctxbuf (s : State) : (drawByte s).2.i2ctxbuf = s.i2ctxbuf := by unfold drawByte; split <;> rfl
@[simp] theorem drawByte_i2csa (s : State) : (drawByte s).2.i2csa = s.i2csa := by unfold drawByte; split <;> rfl
@[simp] theorem drawByte_ifg (s : State) : (drawByte s).2.ifg = s.ifg := by unfold drawByte; split <;> rfl
@[simp] theorem drawByte_phase (s : State) : (drawByte s).2.phase = s.phase := by unfold drawByte; split <;> rfl
@[simp] theorem drawByte_txpending (s : State) : (drawByte s).2.txpending = s.txpending := by unfold drawByte; split <;> rfl
@[simp] theorem drawByte_cmd (s : State) : (drawByte s).2.cmd = s.cmd := by unfold drawByte; split <;> rfl
@[simp] theorem drawByte_arg (s : State) : (drawByte s).2.arg = s.arg := by unfold drawByte; split <;> rfl
@[simp] theorem drawByte_status (s : State) : (drawByte s).2.status = s.status := by unfold drawByte; split <;> rfl
@[simp] theorem drawByte_eng (s : State) : (drawByte s).2.eng = s.eng := by unfold drawByte; split <;> rfl
@[simp] theorem drawByte_ut (s : State) : (drawByte s).2.ut = s.ut := by unfold drawByte; split <;> rfl
@[simp] theorem drawByte_up (s : State) : (drawByte s).2.up = s.up := by unfold drawByte; split <;> rfl
@[simp] theorem drawByte_t10 (s : State) : (drawByte s).2.t10 = s.t10 := by unfold drawByte; split <;> rfl
@[simp] theorem drawByte_p (s : State) : (drawByte s).2.p = s.p := by unfold drawByte; split <;> rfl
@[simp] theorem drawByte_b5 (s : State) : (drawByte s).2.b5 = s.b5 := by unfold drawByte; split <;> rfl
@[simp] theorem drawByte_cal (s : State) : (drawByte s).2.cal = s.cal := by unfold drawByte; split <;> rfl
@[simp] theorem drawByte_rxdata (s : State) : (drawByte s).2.rxdata = s.rxdata := by unfold drawByte; split <;> rfl
@[simp] theorem drawByte_trace (s : State) : (drawByte s).2.trace = s.trace := by unfold drawByte; split <;> rfl
@[simp] theorem drawByte_reads (s : State) : (drawByte s).2.reads = s.reads := by unfold drawByte; split <;> rfl
@[simp] theorem drawByte_agenda (s : State) : (drawByte s).2.agenda = s.agenda := by unfold drawByte; split <;> rfl
@[simp] theorem drawByte_cfg (s : State) : (drawByte s).2.cfg = s.cfg := by unfold drawByte; split <;> rfl

end Sys2Proof.Machine
end

