-- ==== Sys2Proof/Laws/Ops.lean ====
section
/-! SUPPORT. What each shared operation can do, said once: the register actions, the peer's answers, the running of a microprogram and the issue of a command. Later proofs cite these and unfold nothing. -/

namespace Sys2Proof.Machine

/-! ## Register actions -/

theorem requestStop_cases (s : State) :
    requestStop s = s ∨ (s.ctl.swrst = false ∧ s.phase = .idle ∧ requestStop s = s.setTxstp false) ∨
    (s.ctl.swrst = false ∧ s.phase ≠ .idle ∧ s.ctl.txstp = false ∧ requestStop s = (s.setTxstp true).log .stopReq) := by
  unfold requestStop
  by_cases h1 : s.ctl.swrst = true
  · simp [h1]
  · by_cases h2 : s.phase = .idle
    · simp [h1, h2]
    · by_cases h3 : s.ctl.txstp = true
      · simp [h1, h2, h3]
      · simp [h1, h2, h3]

theorem resetTransition_cases (old new : Bool) (s : State) :
    (old = new ∧ resetTransition old new s = s) ∨
    (old = false ∧ new = true ∧ resetTransition old new s = enterReset s) ∨
    (old = true ∧ new = false ∧ resetTransition old new s = leaveReset s) := by
  cases old <;> cases new <;> simp [resetTransition]

/-- An engine request of a START is TR and TXSTT in one write with no reset transition (42_transport.md R184). -/
theorem writeCtl_start (s : State) (tr : Bool) :
    writeCtl { s.ctl.rewrite with tr := tr, txstt := true } s
      = requestStart { s with ctl := { s.ctl with tr := tr } } := by
  have h : resetTransition s.ctl.swrst s.ctl.rewrite.swrst
      (writeConfig { s.ctl.rewrite with tr := tr, txstt := true } s) = { s with ctl := { s.ctl with tr := tr } } := by
    obtain ⟨-, h⟩ | ⟨h1, h2, -⟩ | ⟨h1, h2, -⟩ := resetTransition_cases s.ctl.swrst s.ctl.rewrite.swrst
      (writeConfig { s.ctl.rewrite with tr := tr, txstt := true } s)
    · exact h
    · exact absurd (h1.symm.trans h2) (by decide)
    · exact absurd (h1.symm.trans h2) (by decide)
  have e : writeCtl { s.ctl.rewrite with tr := tr, txstt := true } s
      = requestStart (resetTransition s.ctl.swrst s.ctl.rewrite.swrst
          (writeConfig { s.ctl.rewrite with tr := tr, txstt := true } s)) := rfl
  rw [e, h]

/-! ## The peer's answers -/

theorem drawAck_prepared {s : State} {a : Bool} {rest : List Bool} (h : s.peer.acks = a :: rest) :
    drawAck s = (a, { s with peer := { s.peer with acks := rest } }) := by simp [drawAck, h]

theorem drawByte_prepared {s : State} {b : Byte} {rest : List Byte} (h : s.peer.bytes = b :: rest) :
    drawByte s = (b, { s with peer := { s.peer with bytes := rest } }) := by simp [drawByte, h]

/-! ## Running a microprogram -/

@[simp] theorem runMicro_nil (s : State) : runMicro [] s = s := by simp [runMicro]

theorem runMicro_wait (c : FlagWait) (rest : List Micro) (s : State) :
    runMicro (.wait c :: rest) s = if c.holds s then runMicro rest (advance s) else s := by simp [runMicro]

@[simp] theorem runMicro_convWait (t : Nat) (rest : List Micro) (s : State) : runMicro (.convWait t :: rest) s = s := by
  simp [runMicro]

@[simp] theorem runMicro_finish (rest : List Micro) (s : State) : runMicro (.finish :: rest) s = done s := by
  simp [runMicro]

/-- An item that is an action: neither a wait nor the end. -/
def Micro.isAct : Micro → Bool
  | .wait _ => false
  | .convWait _ => false
  | .finish => false
  | _ => true

theorem runMicro_act {m : Micro} (h : m.isAct = true) (rest : List Micro) (s : State) :
    runMicro (m :: rest) s =
      match act m s with
      | .ok s' => runMicro rest (advance s')
      | .error e => raise e s := by
  cases m <;> first | rfl | simp [Micro.isAct] at h

/-- A property that every action, the passing of a wait and the two ends of a command keep is kept by a whole run. -/
theorem runMicro_keeps {P : State → Prop}
    (hact : ∀ m s s', P s → act m s = .ok s' → P (advance s'))
    (hadv : ∀ s, P s → P (advance s))
    (hdone : ∀ s, P s → P (done s))
    (hraise : ∀ e s, P s → P (raise e s)) :
    ∀ (l : List Micro) (s : State), P s → P (runMicro l s) := by
  intro l
  induction l with
  | nil => intro s h; simpa using h
  | cons m rest ih =>
    intro s h
    by_cases hm : m.isAct = true
    · rw [runMicro_act hm]
      cases ha : act m s with
      | ok s' => exact ih _ (hact m s s' h ha)
      | error e => exact hraise e s h
    · cases m <;> simp [Micro.isAct] at hm
      case wait c =>
        rw [runMicro_wait]
        split
        · exact ih _ (hadv s h)
        · exact h
      case convWait t => simpa using h
      case finish => simpa using hdone s h

/-- What no action of the engine touches: the parameters, the environment's moves, the peer's answers, the host's notes, CMD and ARG. -/
theorem act_frame {m : Micro} {s s' : State} (h : act m s = .ok s') :
    s'.cfg = s.cfg ∧ s'.agenda = s.agenda ∧ s'.peer = s.peer ∧ s'.reads = s.reads ∧ s'.cmd = s.cmd ∧ s'.arg = s.arg := by
  have abort : ∀ x : State, (abortIfOwned x).cfg = x.cfg ∧ (abortIfOwned x).agenda = x.agenda ∧ (abortIfOwned x).peer = x.peer ∧
      (abortIfOwned x).reads = x.reads ∧ (abortIfOwned x).cmd = x.cmd ∧ (abortIfOwned x).arg = x.arg := by
    intro x; unfold abortIfOwned; split <;> simp
  have trans : ∀ (o n : Bool) (x : State), (resetTransition o n x).cfg = x.cfg ∧ (resetTransition o n x).agenda = x.agenda ∧
      (resetTransition o n x).peer = x.peer ∧ (resetTransition o n x).reads = x.reads ∧ (resetTransition o n x).cmd = x.cmd ∧
      (resetTransition o n x).arg = x.arg := by
    intro o n x
    obtain ⟨-, e⟩ | ⟨-, -, e⟩ | ⟨-, -, e⟩ := resetTransition_cases o n x <;> rw [e]
    · simp
    · simpa [enterReset] using abort x
    · simp [leaveReset]
  have start : ∀ x : State, (requestStart x).cfg = x.cfg ∧ (requestStart x).agenda = x.agenda ∧ (requestStart x).peer = x.peer ∧
      (requestStart x).reads = x.reads ∧ (requestStart x).cmd = x.cmd ∧ (requestStart x).arg = x.arg := by
    intro x; unfold requestStart; split <;> simp
  have stop : ∀ x : State, (requestStop x).cfg = x.cfg ∧ (requestStop x).agenda = x.agenda ∧ (requestStop x).peer = x.peer ∧
      (requestStop x).reads = x.reads ∧ (requestStop x).cmd = x.cmd ∧ (requestStop x).arg = x.arg := by
    intro x
    obtain e | ⟨-, -, e⟩ | ⟨-, -, -, e⟩ := requestStop_cases x <;> rw [e] <;> simp
  have ctl : ∀ (w : CtlWrite) (x : State), (writeCtl w x).cfg = x.cfg ∧ (writeCtl w x).agenda = x.agenda ∧
      (writeCtl w x).peer = x.peer ∧ (writeCtl w x).reads = x.reads ∧ (writeCtl w x).cmd = x.cmd ∧ (writeCtl w x).arg = x.arg := by
    intro w x
    unfold writeCtl
    dsimp only
    split <;> split <;> simp only [stop, start, trans, writeConfig_cfg, writeConfig_agenda, writeConfig_peer, writeConfig_reads,
      writeConfig_cmd, writeConfig_arg, and_self]
  cases m <;> simp only [act, Except.ok.injEq] at h
  case writeCtl v => subst h; exact ctl _ _
  case writeBrw => subst h; simp
  case writeSa => subst h; simp
  case clearFlags => subst h; unfold writeIfg; split <;> simp
  case start tr => subst h; exact ctl _ _
  case stop => subst h; exact stop _
  case send b => subst h; unfold writeTxbuf; dsimp only; split <;> simp
  case newRead => subst h; simp
  case take => subst h; simp [readRxbuf]
  case storeRx => subst h; simp
  case storeCal => subst h; simp
  case storeUt => subst h; simp
  case storeUp => subst h; simp
  case calcTemp =>
    cases ht : temp s.cfg.tempArith s.cal (s.ut.toNat : Int) with
    | ok t => rw [ht] at h; simp only [Except.ok.injEq] at h; subst h; simp
    | error e => rw [ht] at h; simp at h
  case calcPress =>
    cases hp : press s.cal (s.up.toNat : Int) (s.ut.toNat : Int) (engOss s).toNat with
    | ok r => obtain ⟨b, q⟩ := r; rw [hp] at h; simp only [Except.ok.injEq] at h; subst h; simp
    | error e => rw [hp] at h; simp at h
  case wait c => subst h; simp
  case convWait t => subst h; simp
  case finish => subst h; simp

/-- What no run of a microprogram touches. -/
theorem resume_frame (s : State) :
    (resume s).cfg = s.cfg ∧ (resume s).agenda = s.agenda ∧ (resume s).peer = s.peer ∧ (resume s).reads = s.reads ∧
      (resume s).cmd = s.cmd ∧ (resume s).arg = s.arg := by
  unfold resume
  refine runMicro_keeps (P := fun x => x.cfg = s.cfg ∧ x.agenda = s.agenda ∧ x.peer = s.peer ∧ x.reads = s.reads ∧
      x.cmd = s.cmd ∧ x.arg = s.arg) ?_ ?_ ?_ ?_ _ _ ?_
  · intro m x x' hx ha
    have := act_frame ha
    simp_all
  · intro x hx; simpa using hx
  · intro x hx; simpa using hx
  · intro e x hx; simpa using hx
  · simp

@[simp] theorem remaining_idle {s : State} (h : s.eng = none) : remaining s = [] := by simp [remaining, h]

/-- An idle engine reacts to nothing (42_transport.md R181). -/
theorem resume_idle {s : State} (h : s.eng = none) : resume s = s := by simp [resume, remaining_idle h]

/-! ## Issue -/

theorem issue_busy {s : State} (h : s.status.busy = true) (w : Word) (c : Command) : issue w c s = s.setOvr := by
  simp [issue, h]

theorem issue_refused {s : State} {c : Command} {e : Err} (h : s.status.busy = false) (hr : refusedAtIssue c s = some e) (w : Word) :
    issue w c s = raise e (acceptWord w s) := by
  simp [issue, h, hr]

theorem issue_taken {s : State} {c : Command} (h : s.status.busy = false) (hr : refusedAtIssue c s = none) (w : Word) :
    issue w c s = resume (takeCommand w c (acceptWord w s)) := by
  simp [issue, h, hr]

end Sys2Proof.Machine
end

