-- ==== Sys2Proof/Laws/PerInstr.lean ====
section
/-! SUPPORT. One law per row of spec/opcode_table.json: the encoder's bits match the row's `match` under its `mask`. -/

namespace Sys2Proof.Laws.TableRow

/-- The bits of an instruction, in the low bits of a word; a read carries no value (R119). -/
def bits : Carrier → Word
  | .host (.read _ _) => 0#16
  | .host (.write _ _ v) => v
  | .control b => b.setWidth 16
  | .address b => b.setWidth 16

/-- The `match` and `mask` of the row in spec/opcode_table.json. -/
def row : Instr → Word × Word
  | .init _ => (0x0001#16, 0xFFCF#16)
  | .writeReg _ => (0x0002#16, 0xFFCF#16)
  | .readBytes _ => (0x0003#16, 0xFFCF#16)
  | .readCal _ => (0x0004#16, 0xFFCF#16)
  | .measureT _ => (0x0005#16, 0xFFCF#16)
  | .measureP _ => (0x0006#16, 0xFFCF#16)
  | .calcT _ => (0x0007#16, 0xFFCF#16)
  | .calcP _ => (0x0008#16, 0xFFCF#16)
  | .ctrlTemp => (0x2E#16, 0xFF#16)
  | .ctrlPress _ => (0x34#16, 0x3F#16)
  | .addrWrite _ => (0x00#16, 0x01#16)
  | .addrRead _ => (0x01#16, 0x01#16)
  | .ctlConfig _ => (0x0000#16, 0x0000#16)
  | .ctlEnterReset _ => (0x0001#16, 0x0001#16)
  | .ctlLeaveReset _ => (0x0000#16, 0x0001#16)
  | .ctlStart _ => (0x0002#16, 0x0002#16)
  | .ctlStop _ => (0x0004#16, 0x0004#16)
  | .txByte _ => (0x0000#16, 0x0000#16)
  | .rxByte => (0x0000#16, 0x0000#16)
  | .ifgWrite _ _ _ => (0x0000#16, 0x0000#16)
  | .saWrite _ => (0x0000#16, 0x0000#16)
  | .brwWrite _ => (0x0000#16, 0x0000#16)

/-- A well-formed instruction's encoding matches its row of the table. -/
def Statement (i : Instr) : Prop := i.wf = true → bits (encode i) &&& (row i).2 = (row i).1

/-- The three request bits of an I2CCTL word are the fields of the write (10_state.md R30). -/
theorem ctl_low_bits (w : CtlWrite) :
    encodeCtlWrite w &&& 0x0007#16 = 0#13 ++ BitVec.ofBool w.txstp ++ BitVec.ofBool w.txstt ++ BitVec.ofBool w.swrst := by
  obtain ⟨swrst, txstt, txstp, tr, ssel, sync, mode, mst⟩ := w
  revert swrst txstt txstp tr ssel sync mode mst
  decide

/-- A mask below 8 sees only the three request bits. -/
theorem ctl_masked (w : CtlWrite) (m : Word) (hm : 0x0007#16 &&& m = m) :
    encodeCtlWrite w &&& m
      = (0#13 ++ BitVec.ofBool w.txstp ++ BitVec.ofBool w.txstt ++ BitVec.ofBool w.swrst) &&& m := by
  rw [← ctl_low_bits, BitVec.and_assoc, hm]

theorem init (oss : BitVec 2) : Statement (.init oss) := by revert oss; unfold Statement; decide
theorem writeReg (oss : BitVec 2) : Statement (.writeReg oss) := by revert oss; unfold Statement; decide
theorem readBytes (oss : BitVec 2) : Statement (.readBytes oss) := by revert oss; unfold Statement; decide
theorem readCal (oss : BitVec 2) : Statement (.readCal oss) := by revert oss; unfold Statement; decide
theorem measureT (oss : BitVec 2) : Statement (.measureT oss) := by revert oss; unfold Statement; decide
theorem measureP (oss : BitVec 2) : Statement (.measureP oss) := by revert oss; unfold Statement; decide
theorem calcT (oss : BitVec 2) : Statement (.calcT oss) := by revert oss; unfold Statement; decide
theorem calcP (oss : BitVec 2) : Statement (.calcP oss) := by revert oss; unfold Statement; decide
theorem ctrlTemp : Statement .ctrlTemp := by unfold Statement; decide
theorem ctrlPress (oss : BitVec 2) : Statement (.ctrlPress oss) := by revert oss; unfold Statement; decide
theorem addrWrite (a : BitVec 7) : Statement (.addrWrite a) := by revert a; unfold Statement; decide
theorem addrRead (a : BitVec 7) : Statement (.addrRead a) := by revert a; unfold Statement; decide

theorem ctlConfig (w : CtlWrite) : Statement (.ctlConfig w) := fun _ => BitVec.and_zero

theorem ctlEnterReset (w : CtlWrite) : Statement (.ctlEnterReset w) := fun h => by
  simp only [Instr.wf, Bool.and_eq_true, Bool.not_eq_true'] at h
  simp only [encode, ctlCarrier, bits, row]
  rw [ctl_masked w _ (by decide), h.1.1, h.1.2, h.2]
  decide

theorem ctlLeaveReset (w : CtlWrite) : Statement (.ctlLeaveReset w) := fun h => by
  simp only [Instr.wf, Bool.and_eq_true, Bool.not_eq_true'] at h
  simp only [encode, ctlCarrier, bits, row]
  rw [ctl_masked w _ (by decide), h.1.1, h.1.2, h.2]
  decide

theorem ctlStart (w : CtlWrite) : Statement (.ctlStart w) := fun h => by
  simp only [Instr.wf, Bool.and_eq_true, Bool.not_eq_true'] at h
  simp only [encode, ctlCarrier, bits, row]
  rw [ctl_masked w _ (by decide), h.1, h.2]
  cases w.swrst <;> decide

theorem ctlStop (w : CtlWrite) : Statement (.ctlStop w) := fun h => by
  simp only [Instr.wf] at h
  simp only [encode, ctlCarrier, bits, row]
  rw [ctl_masked w _ (by decide), h]
  cases w.swrst <;> cases w.txstt <;> decide

theorem txByte (b : Byte) : Statement (.txByte b) := fun _ => BitVec.and_zero
theorem rxByte : Statement .rxByte := fun _ => BitVec.and_zero
theorem ifgWrite (rxifg txifg nackifg : Bool) : Statement (.ifgWrite rxifg txifg nackifg) := fun _ => BitVec.and_zero
theorem saWrite (a : BitVec 7) : Statement (.saWrite a) := fun _ => BitVec.and_zero
theorem brwWrite (div : Word) : Statement (.brwWrite div) := fun _ => BitVec.and_zero

end Sys2Proof.Laws.TableRow
end

