-- ==== Sys2Proof/Laws/Step.lean ====
section
/-! SUPPORT. The inversion of a step, packaged once: a property that each agent's step keeps is kept by every step of the machine (spec 00_scope.md R11). -/

namespace Sys2Proof.Machine

/-- What a property must be closed under to be kept by every step: one field per kind of step, with the condition under which that
step is taken. -/
structure StepClosed (P : State → Prop) : Prop where
  agenda : ∀ s l, P s → P { s with agenda := l }
  note : ∀ s v, P s → P (noteRead v s)
  take : ∀ s, P s → s.status.busy = false → P (s.setRxifg false)
  ovr : ∀ s, P s → s.status.busy = true → P s.setOvr
  ctl : ∀ s w, P s → s.status.busy = false → P (writeCtl w s)
  txbuf : ∀ s b, P s → s.status.busy = false → P (writeTxbuf b s)
  ifg : ∀ s r t n, P s → s.status.busy = false → P (writeIfg r t n s)
  sa : ∀ s a, P s → s.status.busy = false → P (writeSa a s)
  brw : ∀ s d, P s → s.status.busy = false → P (writeBrw d s)
  data : ∀ s off v, P s → s.status.busy = false → P (storeData off v s)
  refused : ∀ s w e, P s → s.status.busy = false → P (raise e (acceptWord w s))
  taken : ∀ s w c, P s → s.status.busy = false → refusedAtIssue c s = none → P (resume (takeCommand w c (acceptWord w s)))
  start : ∀ s, P s → startEnabled s = true → P (resume (pStart s))
  tx : ∀ s, P s → txEnabled s = true → P (resume (pTx s))
  rx : ∀ s, P s → rxEnabled s = true → P (resume (pRx s))
  stop : ∀ s, P s → stopEnabled s = true → P (resume (pStop s))
  conv : ∀ s t rest, P s → remaining s = .convWait t :: rest → P (resume (advance (s.log (.convWait t))))
  timeout : ∀ s, P s → timeoutEnabled s = true → P (timeoutEffect s)
  reset : ∀ s, P s → P (blockReset s)

variable {P : State → Prop}

theorem StepClosed.hostWrite (f : State → State) (hf : ∀ s, P s → s.status.busy = false → P (f s)) (s : State) (h : P s) :
    P (hostWrite f s) := by
  unfold Machine.hostWrite
  split
  · exact h
  · rename_i hb; exact hf s h (by simpa using hb)

theorem StepClosed.issue (k : StepClosed P) (w : Word) (c : Command) (s : State) (h : P s) : P (issue w c s) := by
  by_cases hb : s.status.busy = true
  · rw [issue_busy hb]; exact k.ovr s h hb
  · have hb' : s.status.busy = false := by simpa using hb
    cases hr : refusedAtIssue c s with
    | some e => rw [issue_refused hb' hr]; exact k.refused s w e h hb'
    | none => rw [issue_taken hb' hr]; exact k.taken s w c h hb' hr

theorem StepClosed.issueIllegal (k : StepClosed P) (w : Word) (s : State) (h : P s) : P (issueIllegal w s) := by
  unfold Machine.issueIllegal
  split
  · exact k.ovr s h ‹_›
  · rename_i hb; exact k.refused s w _ h (by simpa using hb)

theorem StepClosed.sendAddress (k : StepClosed P) (b : Byte) (s : State) (h : P s) : P (sendAddress b s) := by
  unfold Machine.sendAddress
  split
  · rename_i hc; exact k.start s h (by simp at hc; exact hc.1)
  · exact h

theorem StepClosed.sendData (k : StepClosed P) (b : Byte) (s : State) (h : P s) : P (sendData b s) := by
  unfold Machine.sendData
  split
  · rename_i hc; exact k.tx s h (by simp at hc; exact hc.1)
  · exact h

theorem StepClosed.exec (k : StepClosed P) {i : Instr} {s t : State} (h : P s) (he : exec i s = .next t) : P t := by
  cases i <;> simp only [Machine.exec, execInit, execWriteReg, execReadBytes, execReadCal, execMeasureT, execMeasureP, execCalcT,
    execCalcP, execCtrlTemp, execCtrlPress, execAddrWrite, execAddrRead, execCtlConfig, execCtlEnterReset, execCtlLeaveReset,
    execCtlStart, execCtlStop, execTxByte, execRxByte, execIfgWrite, execSaWrite, execBrwWrite, Host.Outcome.next.injEq] at he <;>
    subst he
  case init | writeReg | readBytes | readCal | measureT | measureP | calcT | calcP => exact k.issue _ _ _ h
  case ctrlTemp | ctrlPress => exact k.sendData _ _ h
  case addrWrite | addrRead => exact k.sendAddress _ _ h
  case ctlConfig | ctlEnterReset | ctlLeaveReset | ctlStart | ctlStop =>
    exact StepClosed.hostWrite _ (fun s hs hb => k.ctl s _ hs hb) _ h
  case txByte => exact StepClosed.hostWrite _ (fun s hs hb => k.txbuf s _ hs hb) _ h
  case ifgWrite => exact StepClosed.hostWrite _ (fun s hs hb => k.ifg s _ _ _ hs hb) _ h
  case saWrite => exact StepClosed.hostWrite _ (fun s hs hb => k.sa s _ hs hb) _ h
  case brwWrite => exact StepClosed.hostWrite _ (fun s hs hb => k.brw s _ hs hb) _ h
  case rxByte =>
    apply k.note
    unfold readRxbuf
    split
    · rename_i hb; exact k.take s h (by simpa using hb)
    · exact h

theorem StepClosed.hostAccess (k : StepClosed P) {a : Access} {s t : State} (h : P s) (he : hostAccess a s = .next t) : P t := by
  unfold Machine.hostAccess at he
  split at he
  · exact k.exec h he
  · cases he; exact k.issueIllegal _ _ h
  · cases he
    unfold plainAccess
    split
    · exact k.note _ _ h
    · exact StepClosed.hostWrite _ (fun s hs hb => k.data s _ _ hs hb) _ h
  · cases he; exact h
  · cases he

theorem StepClosed.plainBusStep (k : StepClosed P) (s : State) (h : P s) : P (plainBusStep s) := by
  unfold Machine.plainBusStep
  split
  · exact k.tx s h ‹_›
  · split
    · exact k.rx s h ‹_›
    · split
      · exact k.stop s h ‹_›
      · exact h

theorem StepClosed.busStep (k : StepClosed P) {s t : State} (h : P s) (he : busStep s = .next t) : P t := by
  unfold Machine.busStep at he
  split at he
  · exact k.exec h he
  · cases he; exact k.plainBusStep s h

theorem StepClosed.convStep (k : StepClosed P) (s : State) (h : P s) : P (convStep s) := by
  unfold Machine.convStep
  split
  · rename_i hr; exact k.conv s _ _ h hr
  · exact h

theorem StepClosed.timeoutStep (k : StepClosed P) (s : State) (h : P s) : P (timeoutStep s) := by
  unfold Machine.timeoutStep
  split
  · exact k.timeout s h ‹_›
  · exact h

theorem StepClosed.autoStep (k : StepClosed P) {s t : State} (h : P s) (he : autoStep s = .next t) : P t := by
  unfold Machine.autoStep at he
  split at he
  · exact k.busStep h he
  · split at he <;> cases he
    · exact k.convStep s h
    · exact k.timeoutStep s h

theorem StepClosed.move (k : StepClosed P) {m : Move} {s t : State} (h : P s) (he : move m s = .next t) : P t := by
  cases m <;> simp only [Machine.move] at he
  case access a => exact k.hostAccess h he
  case poll off mask v =>
    unfold pollStep at he
    split at he
    · rename_i s' hs
      have := k.hostAccess h hs
      split at he <;> cases he
      · exact this
      · exact k.agenda _ _ this
    · cases he
    · cases he
  case bus => exact k.busStep h he
  case conv => cases he; exact k.convStep s h
  case timeout => cases he; exact k.timeoutStep s h
  case auto => exact k.autoStep h he
  case blockReset => cases he; exact k.reset s h

/-- A property closed under every agent's step is kept by every step of the machine. -/
theorem StepClosed.step (k : StepClosed P) {s t : State} (h : P s) (he : step s = .next t) : P t := by
  unfold Machine.step nextMove at he
  split at he
  · exact k.autoStep h he
  · exact k.move (k.agenda _ _ h) he

/-! ## The step by the head of the agenda -/

theorem step_move {s : State} {m : Move} {rest : List Move} (h : s.agenda = m :: rest) :
    step s = move m { s with agenda := rest } := by simp [step, nextMove, h]

theorem step_auto {s : State} (h : s.agenda = []) : step s = autoStep s := by simp [step, nextMove, h]

end Sys2Proof.Machine
end

