-- ==== Sys2Proof/Tests/Slice0.lean ====
section
/-! SUPPORT. Tests with expected values from spec/ (95_test_vectors.md unless named otherwise), and a witness for the hypotheses of each statement. -/

open Sys2Proof Sys2Proof.Machine

namespace Sys2Proof.Tests

/-! ## States to test on -/

/-- The next state, if there is one. -/
def nextOf (o : Host.Outcome State Fault Refusal) : Option State :=
  match o with
  | .next s => some s
  | .fault _ => none
  | .refused _ => none

/-- A field of the next state. -/
def after {α : Type} (f : State → α) (o : Host.Outcome State Fault Refusal) : Option α := (nextOf o).map f

/-- The datasheet store (V-CAL-1). -/
def datasheet : Cal :=
  #v[0x0198#16, 0xFFB8#16, 0xC7D1#16, 0x7FE5#16, 0x7FF5#16, 0x5A71#16, 0x182E#16, 0x0004#16, 0x8000#16, 0xDDF9#16, 0x0B34#16]

/-- The controller configured, I2CCTL = 0x0F80 (V-BC-2). -/
def ctlReady : Ctl := ⟨false, false, false, false, 0b10#2, true, 0b11#2, true⟩

/-- The I2CCTL write of the word 0x0F80, with these request bits, direction and SWRST. -/
def ctlW (swrst txstt txstp tr : Bool) : CtlWrite := ⟨swrst, txstt, txstp, tr, 0b10#2, true, 0b11#2, true⟩

/-- After INIT: configured, phase IDLE. -/
def idle : State := { State.reset with ctl := ctlReady, phase := .idle, i2csa := 0x77#7 }

/-- In phase TX with TR = 1 after an acknowledged write address (V-BC-3). -/
def inTx : State :=
  { idle with
    ctl := { ctlReady with tr := true }
    phase := .tx
    ifg := ⟨false, true, false⟩
    trace := [.start, .addr 0x77#7 false true] }

/-- In phase RX, nothing received. -/
def inRx : State :=
  { idle with phase := .rx, trace := [.start, .addr 0x77#7 true true], peer := ⟨[], [0xFA#8], 0⟩ }

/-- The data byte of a write to REG_CTRL is queued. -/
def ctrlDue (b : Byte) (ack : Bool) : State :=
  { inTx with
    i2ctxbuf := b
    txpending := true
    ifg := ⟨false, false, false⟩
    trace := inTx.trace ++ [.tx 0xF4#8 true]
    peer := ⟨[ack], [], 0⟩ }

/-- The datasheet store, valid, and raw values. -/
def loaded (ut : Word) (up : Long) : State :=
  { idle with cal := datasheet, ut := ut, up := up, status := ⟨false, true, true, false, .none⟩ }

/-- A command at a position of its microprogram, in phase RX with the STOP of its last byte requested. -/
def lastByte (s : State) (c : Command) (oss : BitVec 2) (pos : Nat) (got : List Byte) (final : Byte) : State :=
  { s with
    ctl := { ctlReady with txstp := true }
    phase := .rx
    status := { s.status with busy := true, done := false }
    eng := some ⟨c, 0#16, oss, pos, got⟩
    agenda := [.bus]
    peer := ⟨[], [final], 0⟩ }

/-- A write of a word of the window. -/
def written (s : State) (off : BitVec 7) (v : Word) : Host.Outcome State Fault Refusal :=
  step { s with agenda := [w16 off v] }

/-! ## Well-formedness refuses -/

theorem test_wf_config_with_start : (Instr.ctlConfig (ctlW false true false false)).wf = false := by decide
theorem test_wf_config_with_stop : (Instr.ctlConfig (ctlW false false true false)).wf = false := by decide
theorem test_wf_enter_reset_bit0 : (Instr.ctlEnterReset (ctlW false false false false)).wf = false := by decide
theorem test_wf_enter_reset_requests : (Instr.ctlEnterReset (ctlW true true false false)).wf = false := by decide
theorem test_wf_leave_reset_bit0 : (Instr.ctlLeaveReset (ctlW true false false false)).wf = false := by decide
theorem test_wf_leave_reset_requests : (Instr.ctlLeaveReset (ctlW false false true false)).wf = false := by decide
theorem test_wf_start_bit1 : (Instr.ctlStart (ctlW false false false true)).wf = false := by decide
theorem test_wf_start_with_stop : (Instr.ctlStart (ctlW false true true true)).wf = false := by decide
theorem test_wf_stop_bit2 : (Instr.ctlStop (ctlW false true false true)).wf = false := by decide

/-! ## Words of the spec decode -/

/-- V-DEC-1, V-DEC-2. -/
theorem test_decode_init : decodeCommand 0x0001#16 = some (.init 0#2) ∧ decodeCommand 0x0031#16 = some (.init 3#2) := by decide
/-- V-DEC-3. -/
theorem test_decode_write_reg : decodeCommand 0x0002#16 = some (.writeReg 0#2) := by decide
/-- V-DEC-4. -/
theorem test_decode_read_bytes : decodeCommand 0x0003#16 = some (.readBytes 0#2) := by decide
/-- V-DEC-5. -/
theorem test_decode_read_cal : decodeCommand 0x0004#16 = some (.readCal 0#2) := by decide
/-- V-DEC-6. -/
theorem test_decode_measure_t : decodeCommand 0x0005#16 = some (.measureT 0#2) := by decide
/-- V-DEC-7. -/
theorem test_decode_measure_p :
    [0x0006#16, 0x0016#16, 0x0026#16, 0x0036#16].map decodeCommand =
      [some (.measureP 0#2), some (.measureP 1#2), some (.measureP 2#2), some (.measureP 3#2)] := by decide
/-- V-DEC-8. -/
theorem test_decode_calc_t : decodeCommand 0x0007#16 = some (.calcT 0#2) := by decide
/-- V-DEC-9. -/
theorem test_decode_calc_p :
    [0x0008#16, 0x0018#16, 0x0028#16, 0x0038#16].map decodeCommand =
      [some (.calcP 0#2), some (.calcP 1#2), some (.calcP 2#2), some (.calcP 3#2)] := by decide
/-- V-DEC-10 to V-DEC-15. -/
theorem test_decode_illegal :
    [0x0000#16, 0x0009#16, 0x000A#16, 0x000F#16, 0x0040#16, 0x0046#16, 0x8001#16, 0xFFFF#16].map decodeCommand =
      List.replicate 8 none := by decide
/-- V-CTRL-1a. -/
theorem test_decode_ctrl_temp : decodeControl 0x2E#8 = some .ctrlTemp := by decide
/-- V-CTRL-1b to 1e. -/
theorem test_decode_ctrl_press :
    [0x34#8, 0x74#8, 0xB4#8, 0xF4#8].map decodeControl =
      [some (.ctrlPress 0#2), some (.ctrlPress 1#2), some (.ctrlPress 2#2), some (.ctrlPress 3#2)] := by decide
/-- 30_encoding.md R116: other bytes are no sensor commands. -/
theorem test_decode_ctrl_other : [0x2F#8, 0x35#8, 0x14#8, 0xEE#8].map decodeControl = List.replicate 4 none := by decide
/-- 30_encoding.md R118: 0xEE is 1110111 : 0. -/
theorem test_decode_addr_write : decodeAddress 0xEE#8 = .addrWrite 0x77#7 := by decide
/-- 30_encoding.md R118: 0xEF is 1110111 : 1. -/
theorem test_decode_addr_read : decodeAddress 0xEF#8 = .addrRead 0x77#7 := by decide
/-- 41_bus_controller.md R141: 0x0F81 from reset is SWRST = 1, SSEL = 0b10, SYNC = 1, MODE = 0b11, MST = 1. -/
theorem test_decode_ctl_config : decode true (.host (.write 2 0x00#7 0x0F81#16)) = .ok (.ctlConfig (ctlW true false false false)) := by decide
/-- V-BC-9: 0x0F91 while SWRST = 0. -/
theorem test_decode_ctl_enter_reset :
    decode false (.host (.write 2 0x00#7 0x0F91#16)) = .ok (.ctlEnterReset (ctlW true false false true)) := by decide
/-- V-BC-2: 0x0F80 while SWRST = 1. -/
theorem test_decode_ctl_leave_reset :
    decode true (.host (.write 2 0x00#7 0x0F80#16)) = .ok (.ctlLeaveReset (ctlW false false false false)) := by decide
/-- V-BC-3: 0x0F92. -/
theorem test_decode_ctl_start :
    decode false (.host (.write 2 0x00#7 0x0F92#16)) = .ok (.ctlStart (ctlW false true false true)) := by decide
/-- V-BC-5: 0x0F94. -/
theorem test_decode_ctl_stop :
    decode false (.host (.write 2 0x00#7 0x0F94#16)) = .ok (.ctlStop (ctlW false false true true)) := by decide
/-- 30_encoding.md R119: bits 7:0 of a write of offset 0x08. -/
theorem test_decode_tx_byte : decode false (.host (.write 2 0x08#7 0xFFF4#16)) = .ok (.txByte 0xF4#8) := by decide
/-- 30_encoding.md R119: a read of offset 0x06. -/
theorem test_decode_rx_byte : decode false (.host (.read 2 0x06#7)) = .ok .rxByte := by decide
/-- 30_encoding.md R119: bits 0, 1, 5 of a write of offset 0x0C. -/
theorem test_decode_ifg_write :
    decode false (.host (.write 2 0x0C#7 0x0021#16)) = .ok (.ifgWrite true false true) ∧
    decode false (.host (.write 2 0x0C#7 0xFFDE#16)) = .ok (.ifgWrite false true false) := by decide
/-- V-BC-17. -/
theorem test_decode_sa_write : decode false (.host (.write 2 0x0A#7 0x00FF#16)) = .ok (.saWrite 0x7F#7) := by decide
/-- 41_bus_controller.md R150. -/
theorem test_decode_brw_write : decode false (.host (.write 2 0x02#7 0x000A#16)) = .ok (.brwWrite 10#16) := by decide
/-- 20_memory.md R81: a byte access, an odd offset, a 32-bit access. -/
theorem test_decode_refuses_shape :
    [decode false (.host (.read 1 0x06#7)), decode false (.host (.write 2 0x11#7 0x0001#16)),
      decode false (.host (.read 4 0x18#7))] = List.replicate 3 (.error .accessShape) := by decide

/-- Bare words of the opcode table (log entry 10). -/
theorem test_table_words :
    decodeTableWord 16 0x0003 = some (.readBytes 0#2) ∧ decodeTableWord 8 0x2E = some .ctrlTemp ∧
    decodeTableWord 8 0xEF = some (.addrRead 0x77#7) := by decide

/-- A placed word is what the next step carries out (log entry 10). -/
theorem test_placed_words :
    after (readReg 0x12#7) (step (State.reset.withFetchWord 16 0x0001)) = some 0x0002#16 ∧
    after (fun t => t.trace.getLast?) (step (State.reset.withFetchWord 8 0x2E)) = some (some (.tx 0x2E#8 true)) ∧
    after (fun t => t.trace) (step (State.reset.withFetchWord 8 0xEF)) = some [.start, .addr 0x77#7 true true] := by decide

/-! ## Register actions -/

/-- V-BC-1. -/
theorem test_ctl_config : after (fun t => (readReg 0x00#7 t, t.phase, t.trace)) (written State.reset 0x00#7 0x0F81#16) =
    some (0x0F81#16, .off, []) := by decide
/-- 10_state.md R36: reserved and hardwired bits ignore writes. -/
theorem test_ctl_config_reserved : after (readReg 0x00#7) (written State.reset 0x00#7 0xF029#16) = some 0x0001#16 := by decide
/-- V-BC-2. -/
theorem test_ctl_leave_reset :
    after (fun t => (readReg 0x00#7 t, t.phase, t.configured, readReg 0x04#7 t, t.trace))
      (written { State.reset with ctl := { ctlReady with swrst := true } } 0x00#7 0x0F80#16) =
    some (0x0F80#16, .idle, true, 0x0000#16, []) := by decide
/-- V-BC-9. -/
theorem test_ctl_enter_reset :
    after (fun t => (readReg 0x00#7 t, t.phase, readReg 0x0C#7 t, t.trace.getLast?)) (written inTx 0x00#7 0x0F91#16) =
    some (0x0F91#16, .off, 0x0000#16, some .abort) := by decide
/-- V-BC-10. -/
theorem test_ctl_start_leaves_reset :
    after (fun t => (readReg 0x00#7 t, t.phase, t.trace)) (written State.reset 0x00#7 0x0002#16) =
    some (0x0002#16, .idle, []) := by decide
/-- 41_bus_controller.md R144: under SWRST the request has no effect. -/
theorem test_ctl_start_under_reset : after (readReg 0x00#7) (written State.reset 0x00#7 0x0F83#16) = some 0x0F81#16 := by decide
/-- V-BC-6. -/
theorem test_ctl_stop_on_free_bus :
    after (fun t => (readReg 0x00#7 t, t.trace)) (written idle 0x00#7 0x0F84#16) = some (0x0F80#16, []) := by decide
/-- V-BC-5, before its bus step. -/
theorem test_ctl_stop_on_owned_bus :
    after (fun t => (readReg 0x00#7 t, t.trace.getLast?)) (written inTx 0x00#7 0x0F94#16) = some (0x0F94#16, some .stopReq) := by
  decide
/-- 41_bus_controller.md R146, its example: TXIFG is cleared and the byte queued. -/
theorem test_tx_byte :
    after (fun t => (readReg 0x08#7 t, readReg 0x0C#7 t, t.txpending)) (written inTx 0x08#7 0x00F4#16) =
    some (0x00F4#16, 0x0000#16, true) := by decide
/-- 41_bus_controller.md R146: during SWRST the value is stored and nothing queued. -/
theorem test_tx_byte_under_reset :
    after (fun t => (readReg 0x08#7 t, t.txpending)) (written State.reset 0x08#7 0x0055#16) = some (0x0055#16, false) := by decide
/-- V-BC-18. -/
theorem test_rx_byte :
    after (fun t => (t.reads, readReg 0x0C#7 t))
      (step { inRx with i2crxbuf := 0x6C#8, ifg := ⟨true, false, false⟩, agenda := [r16 0x06#7] }) =
    some ([0x006C#16], 0x0000#16) := by decide
/-- V-BC-19. -/
theorem test_rx_byte_while_busy :
    after (fun t => (t.reads, readReg 0x0C#7 t))
      (step { inRx with
        i2crxbuf := 0x6C#8
        ifg := ⟨true, false, false⟩
        status := ⟨true, false, false, false, .none⟩
        agenda := [r16 0x06#7] }) =
    some ([0x006C#16], 0x0001#16) := by decide
/-- V-BC-16. -/
theorem test_ifg_write_under_reset : after (readReg 0x0C#7) (written State.reset 0x0C#7 0x0023#16) = some 0x0000#16 := by decide
/-- 10_state.md R43: bits 0, 1 and 5 are stored, the others ignored. -/
theorem test_ifg_write : after (readReg 0x0C#7) (written idle 0x0C#7 0xFFFF#16) = some 0x0023#16 := by decide
/-- V-BC-17. -/
theorem test_sa_write : after (readReg 0x0A#7) (written State.reset 0x0A#7 0x00FF#16) = some 0x007F#16 := by decide
/-- V-BC-20 and 41_bus_controller.md R150's example. -/
theorem test_brw_write : after (readReg 0x02#7) (written idle 0x02#7 0x000A#16) = some 0x000A#16 := by decide

/-! ## Bus bytes and bus steps -/

/-- V-BC-3, its bus step. -/
theorem test_addr_write :
    after (fun t => (readReg 0x00#7 t, t.phase, readReg 0x0C#7 t, readReg 0x04#7 t, t.trace))
      (step { idle with
        ctl := { ctlReady with tr := true, txstt := true }, agenda := [.bus], peer := ⟨[true], [], 0⟩ }) =
    some (0x0F90#16, .tx, 0x0002#16, 0x0010#16, [.start, .addr 0x77#7 false true]) := by decide
/-- V-BC-11, its first bus step. -/
theorem test_addr_read :
    after (fun t => (t.phase, t.trace))
      (step { idle with
        i2csa := 0#7, ctl := { ctlReady with txstt := true }, agenda := [.bus], peer := ⟨[true], [], 0⟩ }) =
    some (.rx, [.start, .addr 0x00#7 true true]) := by decide
/-- 41_bus_controller.md R152, its example. -/
theorem test_ctrl_temp :
    after (fun t => (t.trace.getLast?, readReg 0x0C#7 t, t.phase)) (step { ctrlDue 0x2E#8 true with agenda := [.bus] }) =
    some (some (.tx 0x2E#8 true), 0x0002#16, .tx) := by decide
/-- V-BC-7's refusal, for the pressure byte of oss = 2. -/
theorem test_ctrl_press_refused :
    after (fun t => (t.trace.getLast?, readReg 0x0C#7 t, t.phase)) (step { ctrlDue 0xB4#8 false with agenda := [.bus] }) =
    some (some (.tx 0xB4#8 false), 0x0020#16, .hold) := by decide
/-- V-BC-15. -/
theorem test_rx_last :
    after (fun t => (t.trace.drop 2, t.phase, readReg 0x0C#7 t))
      (step { inRx with ctl := { ctlReady with txstp := true }, agenda := [.bus] }) =
    some ([.rx 0xFA#8 false, .stop], .idle, 0x0001#16) := by decide
/-- V-BC-5, its bus step. -/
theorem test_stop_step :
    after (fun t => (t.trace.getLast?, t.phase, readReg 0x0C#7 t, readReg 0x04#7 t, readReg 0x00#7 t))
      (step { inTx with ctl := { ctlReady with tr := true, txstp := true }, agenda := [.bus] }) =
    some (some .stop, .idle, 0x0000#16, 0x0000#16, 0x0F90#16) := by decide

/-! ## Commands -/

/-- V-RST-2. -/
theorem test_init :
    after (fun t => (readReg 0x00#7 t, readReg 0x0A#7 t, readReg 0x12#7 t, t.trace)) (written State.reset 0x10#7 0x0001#16) =
    some (0x0F80#16, 0x0077#16, 0x0002#16, []) := by decide
/-- V-RST-3. -/
theorem test_init_keeps_store :
    after (fun t => (t.cal, readReg 0x12#7 t)) (written (loaded 0#16 0#32) 0x10#7 0x0001#16) = some (datasheet, 0x0006#16) := by
  decide
/-- V-FAIL-7's first step: TR is written by the engine, TXSTT stays 0 under SWRST. -/
theorem test_write_reg_before_init :
    after (fun t => (readReg 0x12#7 t, readReg 0x00#7 t, stuck t, t.trace)) (written State.reset 0x10#7 0x0002#16) =
    some (0x0001#16, 0x0111#16, true, []) := by decide
/-- 42_transport.md R184: after INIT a WRITE_REG requests a START to write. -/
theorem test_write_reg_begins :
    after (fun t => (readReg 0x12#7 t, readReg 0x00#7 t, startEnabled t)) (written idle 0x10#7 0x0002#16) =
    some (0x0001#16, 0x0F92#16, true) := by decide
/-- V-ERR-2. -/
theorem test_read_bytes_count_0 :
    after (fun t => (readReg 0x12#7 t, t.trace)) (written { State.reset with arg := 0x00F6#16 } 0x10#7 0x0003#16) =
    some (0x0202#16, []) := by decide
/-- V-ERR-3, and V-RD-4's accepted count. -/
theorem test_read_bytes_count_33_and_32 :
    after (readReg 0x12#7) (written { State.reset with arg := 0x21F6#16 } 0x10#7 0x0003#16) = some 0x0202#16 ∧
    after (readReg 0x12#7) (written { State.reset with arg := 0x2000#16 } 0x10#7 0x0003#16) = some 0x0001#16 := by decide
/-- V-FAIL-8. -/
theorem test_read_cal_before_init : after (readReg 0x12#7) (written State.reset 0x10#7 0x0004#16) = some 0x0001#16 := by decide
/-- V-CAL-1, its last bus step. -/
theorem test_read_cal_ends :
    after (fun t => (t.cal, readReg 0x12#7 t, readReg 0x40#7 t, readReg 0x54#7 t))
      (step (lastByte idle .readCal 0#2 50
        [0x01#8, 0x98#8, 0xFF#8, 0xB8#8, 0xC7#8, 0xD1#8, 0x7F#8, 0xE5#8, 0x7F#8, 0xF5#8, 0x5A#8, 0x71#8, 0x18#8, 0x2E#8, 0x00#8,
          0x04#8, 0x80#8, 0x00#8, 0xDD#8, 0xF9#8, 0x0B#8] 0x34#8)) =
    some (datasheet, 0x0006#16, 0x9801#16, 0x340B#16) := by decide +kernel
/-- V-ERR-1. -/
theorem test_measure_t_uninit :
    after (fun t => (readReg 0x12#7 t, t.trace, t.cmd)) (written State.reset 0x10#7 0x0005#16) =
    some (0x0302#16, [], 0x0005#16) := by decide
/-- PRG-1, the last bus step: E1. -/
theorem test_measure_t_ends :
    after (fun t => (t.ut, t.t10, readReg 0x12#7 t)) (step (lastByte (loaded 0#16 0#32) .measureT 0#2 20 [0x6C#8] 0xFA#8)) =
    some (27898#16, 150#32, 0x0006#16) := by decide +kernel
/-- V-ERR-6: ILLEGAL_CMD before UNINIT_CAL, and MEASURE_P's own refusal. -/
theorem test_measure_p_uninit :
    after (readReg 0x12#7) (written State.reset 0x10#7 0x0046#16) = some 0x0102#16 ∧
    after (readReg 0x12#7) (written State.reset 0x10#7 0x0036#16) = some 0x0302#16 := by decide
/-- V-P-1 at the end of a MEASURE_P: E2. -/
theorem test_measure_p_ends :
    after (fun t => (t.up, t.ut, t.b5, t.p, readReg 0x12#7 t))
      (step (lastByte (loaded 0#16 23843#32) .measureP 0#2 46 [0x6C#8] 0xFA#8)) =
    some (23843#32, 27898#16, 2399#32, 69964#32, 0x0006#16) := by decide
/-- V-ERR-9. -/
theorem test_calc_t_real :
    after (fun t => (readReg 0x1A#7 t, readReg 0x1C#7 t, readReg 0x12#7 t)) (written (loaded 20285#16 0#32) 0x10#7 0x0007#16) =
    some (0x535E#16, 0xFFEE#16, 0x0006#16) := by decide +kernel
/-- V-ERR-8. -/
theorem test_calc_t_int_div_zero :
    after (fun t => (t.t10, readReg 0x12#7 t))
      (written { loaded 20285#16 0#32 with cfg := { tempArith := .int } } 0x10#7 0x0007#16) = some (0#32, 0x0406#16) := by decide
/-- V-ORD-1: the halves of 69964. -/
theorem test_calc_p :
    after (fun t => (readReg 0x1E#7 t, readReg 0x20#7 t, t.b5)) (written (loaded 27898#16 23843#32) 0x10#7 0x0008#16) =
    some (0x114C#16, 0x0001#16, 2399#32) := by decide
/-- V-ERR-7. -/
theorem test_calc_p_overflow :
    after (fun t => (t.p, t.b5, readReg 0x12#7 t)) (written (loaded 27898#16 0#32) 0x10#7 0x0008#16) =
    some (0#32, 0#32, 0x0506#16) := by decide
/-- V-ERR-4. -/
theorem test_illegal_command :
    after (fun t => (readReg 0x12#7 t, t.cmd)) (written State.reset 0x10#7 0x0009#16) = some (0x0102#16, 0x0009#16) := by decide
/-- V-FAIL-9 and V-FAIL-10. -/
theorem test_busy_lock :
    let s : State := { idle with cmd := 0x0002#16, eng := some ⟨.writeReg, 0#16, 0#2, 2, []⟩, status := ⟨true, false, false, false, .none⟩ }
    after (fun t => (readReg 0x12#7 t, t.cmd)) (written s 0x10#7 0x0004#16) = some (0x0009#16, 0x0002#16) ∧
    after (readReg 0x14#7) (written s 0x14#7 1234#16) = some 0x0000#16 := by decide
/-- V-FAIL-1, the timeout step. -/
theorem test_timeout :
    after (fun t => (readReg 0x12#7 t, readReg 0x0C#7 t, t.trace.getLast?))
      (step { idle with
        ctl := { ctlReady with tr := true }
        phase := .hold
        ifg := ⟨false, false, true⟩
        trace := [.start, .addr 0x77#7 false false]
        eng := some ⟨.writeReg, 0x2EF4#16, 0#2, 2, []⟩
        status := ⟨true, false, false, false, .none⟩
        agenda := [.timeout]
        cfg := { policy := .timeout } }) =
    some (0x0602#16, 0x0020#16, some .stopReq) := by decide

/-! ## Arithmetic -/

/-- V-T-2, UT = 19981, the row where the modes part. -/
theorem test_temp_modes :
    [TempArith.real, .binary32, .binary64, .int].map (fun m => temp m datasheet 19981) = [.ok 3482, .ok 3483, .ok 3482, .ok 3482] := by
  decide +kernel
/-- V-T-3: floor. -/
theorem test_temp_floor : temp .real datasheet 0 = .ok (-1392) := by decide +kernel
/-- V-T-5: INT overflows where REAL does not. -/
theorem test_temp_overflow :
    let c : Cal := (datasheet.set 5 0x0000#16).set 4 0xFFFF#16
    temp .int c 65535 = .error .overflow ∧ temp .real c 65535 = .ok 8183 := by decide +kernel
/-- V-P-3 and V-P-4: both branches of B7. -/
theorem test_press : press datasheet 65535 27898 0 = .ok (2399, 195160) ∧ press datasheet 524287 27898 3 = .ok (2399, 195162) := by
  decide
/-- V-P-5b, V-P-5d, V-CAL-4. -/
theorem test_press_corners :
    press datasheet 23843 20000 0 = .error .overflow ∧ press (datasheet.set 3 0x0000#16) 23843 27898 0 = .error .divZero ∧
    press (datasheet.set 3 0xFFFF#16) 23843 27898 0 = .ok (2399, 35018) := by decide
/-- V-UP-4, V-UP-6, V-UP-7. -/
theorem test_up :
    upOf [0x5D#8, 0x23#8, 0x60#8] 3#2 = 190747#32 ∧ upOf [0xFF#8, 0xFF#8, 0xFF#8] 3#2 = 524287#32 ∧
    upOf [0x00#8, 0x00#8, 0xFF#8] 0#2 = 0#32 := by decide

/-! ## Witnesses: states that meet the hypotheses of each statement -/

/-- A state with the given moves to come. -/
def due (s : State) (m : Move) : State := { s with agenda := [m] }

/-- A stuck WRITE_REG after a refused address (V-FAIL-1, V-FAIL-2). -/
def refused (policy : TimeoutPolicy) (m : Move) : State :=
  { idle with
    ctl := { ctlReady with tr := true }
    phase := .hold
    ifg := ⟨false, false, true⟩
    trace := [.start, .addr 0x77#7 false false]
    cmd := 0x0002#16
    eng := some ⟨.writeReg, 0x2EF4#16, 0#2, 2, []⟩
    status := ⟨true, false, false, false, .none⟩
    agenda := [m]
    cfg := { policy := policy } }

/-- At a conversion wait. -/
def converting (c : Command) (oss : BitVec 2) (pos : Nat) : State :=
  { idle with
    eng := some ⟨c, 0#16, oss, pos, [0x00#8]⟩
    status := ⟨true, false, true, false, .none⟩
    agenda := [.conv] }

/-- A ready controller, a command word to be written and the peer's answers. -/
def commanded (w arg : Word) (calv : Bool) (acks : Nat) (bytes : List Byte) : State :=
  { idle with
    arg := arg
    status := ⟨false, true, calv, false, .none⟩
    agenda := [w16 0x10#7 w]
    peer := ⟨List.replicate acks true, bytes, 0⟩ }

/-- BlockResetSetsEveryRegister, in an owned and in a free phase. -/
theorem witness_block_reset :
    (due inTx .blockReset).agenda = .blockReset :: [] ∧ (due idle .blockReset).agenda = .blockReset :: [] := by decide
/-- EveryStepKeepsInvariant, NoStepChangesParameters, TraceOnlyGrows, OutputsChangeOnlyByTheirCommands (the quiet case): the step of
an idle, configured block. -/
theorem witness_invariant : Inv idle ∧ ∃ t, step idle = .next t := by
  refine ⟨⟨?_, ?_, ?_, ?_, ?_, ?_, ?_⟩, _, rfl⟩
  · simp only [ResetHeld]; decide
  · simp only [NoStopWhenIdle]; decide
  · simp only [BusyMatchesEngine]; decide
  · simp only [RunningNotDone]; decide
  · simp [EngineAtWait, idle, State.reset]
  · simp only [StoreBlankUntilValid]; decide
  · simp only [Framed]; decide
/-- EveryStepKeepsInvariant, TimeoutEndsStuckCommand: the invariant holds in a stuck state too, and its timeout step answers. -/
theorem witness_invariant_stuck : Inv (refused .timeout .timeout) ∧ ∃ t, step (refused .timeout .timeout) = .next t := by
  refine ⟨⟨?_, ?_, ?_, ?_, ?_, ?_, ?_⟩, _, rfl⟩
  · simp only [ResetHeld]; decide
  · simp only [NoStopWhenIdle]; decide
  · simp only [BusyMatchesEngine]; decide
  · simp only [RunningNotDone]; decide
  · intro _; change FlagWait.holds .txifgSet (refused .timeout .timeout) = false; decide
  · simp only [StoreBlankUntilValid]; decide
  · simp only [Framed]; decide
/-- StoreChangesOnlyByReadCalOrReset, its second case: the last step of a READ_CAL changes the store. -/
theorem witness_store_changes :
    after (fun t => t.status.calv && t.eng.isNone && decide (t.status.err = .none)) (step (lastByte idle .readCal 0#2 50 (List.replicate 21 0x11#8) 0x22#8)) = some true := by
  decide +kernel
/-- OutputsChangeOnlyByTheirCommands: a pressure cycle that ends (position 22, its last byte) writes UP and RXDATA and hands over to
position 28; the host's writes of UT and of a half of UP. -/
theorem witness_raw_values_change :
    after (fun t => (t.up, readReg 0x40#7 t, readReg 0x42#7 t, t.eng.map Running.pos))
      (step (lastByte (loaded 0#16 0#32) .measureP 0#2 22 [0x5D#8, 0x23#8] 0x00#8)) =
      some (23843#32, 0x235D#16, 0x0000#16, some 28) ∧
    after (fun t => t.ut) (written idle 0x14#7 0x6CFA#16) = some 0x6CFA#16 ∧
    after (fun t => t.up) (written idle 0x18#7 0x0001#16) = some 0x00010000#32 := by
  decide +kernel
/-- OutputsChangeOnlyByTheirCommands, the commands that compute. -/
theorem witness_outputs_change :
    after (fun t => decide (t.t10 = 0#32)) (step (due (loaded 27898#16 23843#32) (w16 offCmd (commandWord 0x7#4 0#2)))) = some false ∧
    after (fun t => decide (t.p = 0#32)) (step (due (loaded 27898#16 23843#32) (w16 offCmd (commandWord 0x8#4 0#2)))) = some false := by
  decide +kernel
/-- DecodeOfEncode: each of the five I2CCTL rows is well formed and selected. -/
theorem witness_decode_of_encode :
    (Instr.ctlConfig (ctlW true false false true)).wf = true ∧ (Instr.ctlConfig (ctlW true false false true)).selected true = true ∧
    (Instr.ctlEnterReset (ctlW true false false true)).wf = true ∧
    (Instr.ctlEnterReset (ctlW true false false true)).selected false = true ∧
    (Instr.ctlLeaveReset (ctlW false false false true)).wf = true ∧
    (Instr.ctlLeaveReset (ctlW false false false true)).selected true = true ∧
    (Instr.ctlStart (ctlW false true false true)).wf = true ∧ (Instr.ctlStop (ctlW false true true true)).wf = true ∧
    (Instr.measureP 3#2).wf = true ∧ (Instr.measureP 3#2).selected true = true := by decide
/-- CommandWordDecodes: words at the ends of its clauses. -/
theorem witness_command_words :
    (0x0040#16).extractLsb' 6 10 ≠ 0#10 ∧ ((0x0030#16).extractLsb' 0 4).toNat = 0 ∧ ((0x0009#16).extractLsb' 0 4).toNat = 9 ∧
    (0x003F#16).extractLsb' 6 10 = 0#10 ∧ ((0x0038#16).extractLsb' 0 4).toNat = 8 ∧ idle.status.busy = false := by decide
/-- HostAccessRunsDecodedInstruction. -/
theorem witness_host_access :
    (due idle (w16 0x08#7 0x00F4#16)).agenda = .access (.write 2 0x08#7 0x00F4#16) :: [] ∧
    decode (due idle (w16 0x08#7 0x00F4#16)).ctl.swrst (.host (.write 2 0x08#7 0x00F4#16)) = .ok (.txByte 0xF4#8) := by decide
/-- BusByteRunsDecodedInstruction, StartSendsAddressByte, SensorCommandBytesAreSent, TransmitStepSendsQueuedByte. -/
theorem witness_bus_bytes :
    (let s : State := { idle with ctl := { ctlReady with txstt := true }, agenda := [.bus] }
     startEnabled s = true ∧ s.ctl.txstt = true ∧ s.ctl.txstp = false ∧ s.configured = true ∧ s.i2csa = 0x77#7 ∧ s.phase = .idle) ∧
    (let s : State := { inTx with ctl := { ctlReady with tr := true, txstt := true }, agenda := [.bus] }
     startEnabled s = true ∧ s.phase = .tx ∧ s.txpending = false ∧ s.ctl.tr = true) ∧
    (let s := due (ctrlDue 0xF4#8 true) .bus
     s.agenda = .bus :: [] ∧ s.phase = .tx ∧ s.txpending = true ∧ controlByteDue s = true ∧
       decodeControl s.i2ctxbuf = some (.ctrlPress 3#2) ∧ s.i2ctxbuf = BitVec.ofNat 8 (0x34 + 64 * (3#2).toNat)) ∧
    (ctrlDue 0x2E#8 true).i2ctxbuf = 0x2E#8 := by decide
/-- OnlyWordAccessesAdmitted: a byte access, an odd offset and an admitted access. -/
theorem witness_access_shapes :
    (due idle (.access (.read 1 0x06#7))).agenda = .access (.read 1 0x06#7) :: [] ∧ (0x7F#7).toNat % 2 = 1 ∧
    (0x7E#7).toNat % 2 = 0 ∧ (due idle (r16 0x7E#7)).agenda = .access (.read 2 0x7E#7) :: [] := by decide
/-- BusyLockIgnoresHostWrites, OverrunSetAndCleared. -/
theorem witness_busy :
    let s := refused .block (w16 0x10#7 0x0004#16)
    s.status.busy = true ∧ (0x10#7).toNat % 2 = 0 ∧ s.agenda = .access (.write 2 0x10#7 0x0004#16) :: [] ∧
      (refused .block (w16 0x14#7 0x04D2#16)).agenda = .access (.write 2 0x14#7 0x04D2#16) :: [] ∧ idle.status.busy = false := by
  decide
/-- DataRegisterWrites: each of its four offsets. -/
theorem witness_data_writes :
    [0x0E#7, 0x14#7, 0x16#7, 0x18#7].all (fun off =>
      (due idle (w16 off 0x1234#16)).agenda == [.access (.write 2 off 0x1234#16)]
        && !(due idle (w16 off 0x1234#16)).status.busy) = true := by decide
/-- ReservedAndReadOnlyOffsets, ReadsHaveNoSideEffect: the ends of the reserved range, the two single offsets, and read-only
registers. -/
theorem witness_reserved :
    (due idle (r16 0x26#7)).agenda = .access (.read 2 0x26#7) :: [] ∧ 0x60 ≤ (0x60#7).toNat ∧ (0x60#7).toNat % 2 = 0 ∧
    0x60 ≤ (0x7E#7).toNat ∧ (0x7E#7).toNat % 2 = 0 ∧
    [0x12#7, 0x04#7, 0x06#7, 0x1A#7, 0x24#7, 0x28#7, 0x3C#7, 0x3E#7, 0x5E#7, 0x7E#7].all (fun off =>
      off.toNat % 2 == 0 && !([0x00, 0x02, 0x08, 0x0A, 0x0C, 0x0E, 0x10, 0x14, 0x16, 0x18].contains off.toNat)) = true ∧
    0x12#7 ≠ 0x06#7 := by decide
/-- ControlWriteInOneForm, and the statements of the single I2CCTL rows, the buffer, the flags, the address and the divisor: an idle
block, an owned bus, and a block in reset. -/
theorem witness_register_actions :
    ResetHeld inTx ∧ NoStopWhenIdle inTx ∧ inTx.status.busy = false ∧ inTx.ctl.swrst = false ∧ inTx.phase ≠ .idle ∧
      inTx.ctl.txstp = false ∧ idle.ctl.swrst = false ∧ idle.phase = .idle ∧ ResetHeld State.reset ∧
      State.reset.ctl.swrst = true ∧ State.reset.status.busy = false ∧ (ctlW true false false false).swrst = State.reset.ctl.swrst ∧
      (ctlW false false true false).swrst = inTx.ctl.swrst ∧ (ctlW true true false false).txstt = true := by
  simp only [ResetHeld, NoStopWhenIdle]; decide
/-- StopRequestSetsTxstp, its fourth clause: a STOP already requested. -/
theorem witness_stop_again :
    let s : State := { inTx with ctl := { ctlReady with tr := true, txstp := true } }
    s.status.busy = false ∧ s.ctl.swrst = false ∧ s.phase ≠ .idle ∧ s.ctl.txstp = true := by decide
/-- TakeByteClearsRxifg: both values of BUSY. -/
theorem witness_take_byte : inRx.status.busy = false ∧ (refused .block .bus).status.busy = true := by decide
/-- BytesNotSentHaveNoEffect: no byte is about to be sent. -/
theorem witness_not_sent : startEnabled idle = false ∧ txEnabled idle = false := by decide
/-- ReceiveStepTakesByte, StopStepFreesBus, and the four clauses of AtMostOneBusStepEnabled. -/
theorem witness_bus_steps :
    ((due inRx .bus).phase = .rx ∧ (due inRx .bus).ifg.rxifg = false ∧ rxEnabled inRx = true) ∧
    (let s : State := { inTx with ctl := { ctlReady with tr := true, txstp := true }, agenda := [.bus] }
     s.ctl.txstp = true ∧ s.phase = .tx ∧ s.txpending = false ∧ stopEnabled s = true) ∧
    txEnabled (ctrlDue 0x2E#8 true) = true ∧ State.reset.phase = .off ∧
    startEnabled { idle with ctl := { ctlReady with txstt := true } } = true := by decide
/-- InitConfiguresController, WriteRegBegins, ReadCommandsBegin (the least and the largest count), MeasureCommandsBegin. -/
theorem witness_begins :
    ResetHeld idle ∧ ResetHeld State.reset ∧ idle.status.busy = false ∧ ResetHeld (loaded 0#16 0#32) ∧
      (loaded 0#16 0#32).status.calv = true ∧ (loaded 0#16 0#32).status.busy = false ∧
      ((0x01AA#16).extractLsb' 8 8).toNat = 1 ∧ ((0x2000#16).extractLsb' 8 8).toNat = 32 := by
  simp only [ResetHeld]; decide
/-- CalcTComputesT10: a value, an error, no store. -/
theorem witness_calc_t :
    (loaded 27898#16 0#32).status.busy = false ∧ (loaded 27898#16 0#32).status.calv = true ∧ idle.status.calv = false ∧
    temp .real datasheet ((27898#16).toNat : Int) = .ok 150 ∧ temp .int datasheet ((20285#16).toNat : Int) = .error .divZero := by
  decide +kernel
/-- CalcPComputesPressure: a value, an error, no store. -/
theorem witness_calc_p :
    (loaded 27898#16 23843#32).status.busy = false ∧ (loaded 27898#16 23843#32).status.calv = true ∧ idle.status.calv = false ∧
    press datasheet ((23843#32).toNat : Int) ((27898#16).toNat : Int) (0#2).toNat = .ok (2399, 69964) ∧
    press datasheet ((0#32).toNat : Int) ((27898#16).toNat : Int) (0#2).toNat = .error .overflow := by decide +kernel
/-- RefusalsAtIssue: counts 0 and 33, and no store. -/
theorem witness_refusals :
    idle.status.busy = false ∧ (0x00F6#16).extractLsb' 8 8 = 0#8 ∧ 32 < ((0x21F6#16).extractLsb' 8 8).toNat ∧
    idle.status.calv = false := by decide
/-- EngineReactsOnlyToItsWait: idle, at a flag wait, at a conversion wait. -/
theorem witness_engine_waits :
    idle.eng = none ∧ (remaining (refused .block .bus)).head? = some (.wait .txifgSet) ∧
    FlagWait.holds .txifgSet (refused .block .bus) = false ∧
    (remaining (converting .measureT 0#2 9)).head? = some (.convWait 4500) := by decide
/-- ConversionStepStartsRead: MEASURE_T, both waits of MEASURE_P, oss = 0 and oss = 3. -/
theorem witness_conversion :
    ResetHeld (converting .measureT 0#2 9) ∧ (converting .measureT 0#2 9).agenda = .conv :: [] ∧
    (converting .measureT 0#2 9).eng = some ⟨.measureT, 0#16, 0#2, 9, [0x00#8]⟩ ∧
    (converting .measureP 3#2 9).eng = some ⟨.measureP, 0#16, 3#2, 9, [0x00#8]⟩ ∧
    (converting .measureP 0#2 35).eng = some ⟨.measureP, 0#16, 0#2, 35, [0x00#8]⟩ := by
  simp only [ResetHeld]; decide
/-- TimeoutEndsStuckCommand under both policies, StuckStaysStuckUnderBlock. -/
theorem witness_stuck :
    ResetHeld (refused .timeout .timeout) ∧ stuck (refused .timeout .timeout) = true ∧
    (refused .timeout .timeout).cfg.policy = .timeout ∧ stuck (due idle .timeout) = false ∧
    BusyMatchesEngine (refused .block .bus) ∧ stuck (refused .block .bus) = true ∧ (refused .block .bus).cfg.policy = .block ∧
    (∀ rest, (refused .block .bus).agenda ≠ .blockReset :: rest) ∧ after (·.status.busy) (step (refused .block .bus)) = some true := by
  refine ⟨by simp only [ResetHeld]; decide, by decide, by decide, by decide, by simp only [BusyMatchesEngine]; decide, by decide,
    by decide, ?_, by decide⟩
  intro rest h
  simp [refused] at h
/-- WriteRegTransaction and ReadBytesTransaction of one and of 32 bytes. -/
theorem witness_transport :
    (transportReady (commanded (commandWord 0x2#4 0#2) 0x2EF4#16 false 3 []) ∧
      (commanded (commandWord 0x2#4 0#2) 0x2EF4#16 false 3 []).agenda = [.access (.write 2 0x10#7 (commandWord 0x2#4 0#2))] ∧
      (commanded (commandWord 0x2#4 0#2) 0x2EF4#16 false 3 []).peer.acks = true :: true :: true :: []) ∧
    (let s := commanded (commandWord 0x3#4 0#2) 0x01AA#16 false 3 [0x01#8]
     transportReady s ∧ s.peer.bytes = [] ++ 0x01#8 :: [] ∧ (s.arg.extractLsb' 8 8).toNat = ([] : List Byte).length + 1) ∧
    (let s := commanded (commandWord 0x3#4 0#2) 0x2000#16 false 3 (List.replicate 31 0x11#8 ++ [0x22#8])
     transportReady s ∧ s.peer.bytes = List.replicate 31 0x11#8 ++ 0x22#8 :: [] ∧
       (s.arg.extractLsb' 8 8).toNat = (List.replicate 31 0x11#8).length + 1 ∧ (List.replicate 31 0x11#8).length < 32) := by
  simp only [transportReady]; decide
/-- ReadCalTransaction, MeasureTTransaction, MeasurePTransaction. -/
theorem witness_measurement :
    (let s := commanded (commandWord 0x4#4 0#2) 0#16 false 3 (List.replicate 21 0x11#8 ++ [0x22#8])
     transportReady s ∧ s.peer.acks = true :: true :: true :: [] ∧ s.peer.bytes = List.replicate 21 0x11#8 ++ 0x22#8 :: []) ∧
    (let s := commanded (commandWord 0x5#4 0#2) 0#16 true 6 [0x6C#8, 0xFA#8]
     transportReady s ∧ s.status.calv = true ∧ s.peer.acks = List.replicate 6 true ++ []) ∧
    (let s := commanded (commandWord 0x6#4 3#2) 0#16 true 12 [0x5D#8, 0x23#8, 0x60#8, 0x6C#8, 0xFA#8]
     transportReady s ∧ s.status.calv = true ∧ s.peer.acks = List.replicate 12 true ++ []) := by
  simp only [transportReady]; decide
/-- The pipeline statements: FloatRoundingIsNearestEven, IntegerPathsAgreeOnB5, ZeroDivisorsAreReported, ResultsFitTheirRegisters. -/
theorem witness_pipeline :
    (1 ≤ 24 ∧ (1 / 3 : Rat) ≠ 0) ∧ press datasheet 23843 27898 0 = .ok (2399, 69964) ∧
    b5int datasheet 20285 = .error .divZero ∧ (datasheet.set 3 0x0000#16).get 3 = 0#16 ∧ temp .int datasheet 27898 = .ok 150 := by
  decide +kernel

end Sys2Proof.Tests
end

section
/-! Proofs. O3: every step, by any agent, keeps the invariant. The bus controller's part of it is kept by each register action and bus
step; the command's part by each action of the engine; and a run of a microprogram ends at a wait or with its command. -/

namespace Sys2Proof.Machine

/-! ## The framing law -/

theorem frameOf_append (t l : List BusEvent) :
    frameOf (t ++ l) = l.foldl (fun f e => f.bind (frameStep · e)) (frameOf t) := by
  simp [frameOf]

/-- Giving up the bus leaves no open transaction: an owned one ends with ABORT (41_bus_controller.md R142). -/
theorem frameOf_abortIfOwned {s : State} (h : Framed s) : frameOf (abortIfOwned s).trace = some .free := by
  unfold Framed at h
  cases hp : s.phase <;> simp [abortIfOwned, Phase.owns, frameOf_append, h, frameFor, hp, frameStep]

/-! ## The bus controller's part of the invariant -/

/-- The clauses of the invariant about the bus controller. -/
structure BusInv (s : State) : Prop where
  resetHeld : ResetHeld s
  noStopWhenIdle : NoStopWhenIdle s
  framed : Framed s

namespace BusInv

variable {s t : State}

theorem frameOf_trace (h : BusInv s) : frameOf s.trace = some (frameFor s) := h.framed

/-- Outside phase OFF the controller is not held in reset (10_state.md R44). -/
theorem swrst_eq_false (h : BusInv s) (hp : s.phase ≠ .off) : s.ctl.swrst = false := by
  simpa [hp] using h.resetHeld.1

theorem of_awake (hr : s.ctl.swrst = false) (hp : s.phase ≠ .off) (hs : NoStopWhenIdle s) (hf : Framed s) : BusInv s :=
  ⟨⟨by simp [hr, hp], by simp [hr]⟩, hs, hf⟩

/-- While SWRST = 0, TXSTT, the flags and the queue are free. -/
theorem congr_awake (h : BusInv s) (hr : s.ctl.swrst = false) (hr' : t.ctl.swrst = s.ctl.swrst) (hs : t.ctl.txstp = s.ctl.txstp)
    (hp : t.phase = s.phase) (ht : t.trace = s.trace) : BusInv t := by
  have hoff : s.phase ≠ .off := by simpa [hr] using h.resetHeld.1
  refine of_awake (hr'.trans hr) (by rwa [hp]) ?_ ?_
  · simpa [NoStopWhenIdle, hp, hs] using h.noStopWhenIdle
  · simpa [Framed, frameFor, hp, hs, ht] using h.framed

/-! ### Register actions -/

theorem configured (h : BusInv s) (w : CtlWrite) : BusInv (resetTransition s.ctl.swrst w.swrst (writeConfig w s)) := by
  obtain ⟨hw, e⟩ | ⟨-, hw, e⟩ | ⟨ho, hw, e⟩ := resetTransition_cases s.ctl.swrst w.swrst (writeConfig w s) <;> rw [e]
  · exact ⟨by simpa [ResetHeld, ← hw] using h.resetHeld, h.noStopWhenIdle, h.framed⟩
  · have hf : frameOf (abortIfOwned (writeConfig w s)).trace = some .free := frameOf_abortIfOwned h.framed
    have hr : (abortIfOwned (writeConfig w s)).ctl.swrst = true := by unfold abortIfOwned; split <;> simpa using hw
    exact ⟨by simp [ResetHeld, enterReset, hr], by simp [NoStopWhenIdle, enterReset], hf⟩
  · have hoff : s.phase = .off := h.resetHeld.1.mp ho
    have hstp : s.ctl.txstp = false := (h.resetHeld.2 ho).2.1
    refine of_awake (by simpa [leaveReset] using hw) (by simp [leaveReset]) (fun _ => by simpa [leaveReset] using hstp) ?_
    simpa [Framed, frameFor, leaveReset, hoff] using h.framed

theorem requestStart (h : BusInv s) : BusInv (requestStart s) := by
  unfold Machine.requestStart
  split
  · exact h
  · exact h.congr_awake (by simpa using ‹¬ s.ctl.swrst = true›) rfl rfl rfl rfl

theorem requestStop (h : BusInv s) : BusInv (requestStop s) := by
  obtain e | ⟨hr, hp, e⟩ | ⟨hr, hp, hs, e⟩ := requestStop_cases s <;> rw [e]
  · exact h
  · refine of_awake hr (by simp [hp]) (fun _ => rfl) ?_
    simpa [Framed, frameFor, hp] using h.framed
  · have hoff : s.phase ≠ .off := by simpa [hr] using h.resetHeld.1
    refine of_awake hr hoff (fun hi => absurd hi hp) ?_
    have hf := h.frameOf_trace
    cases hc : s.phase
    case off => exact absurd hc hoff
    case idle => exact absurd hc hp
    all_goals simp [Framed, frameOf_append, hf, frameFor, hc, hs, frameStep]

theorem writeCtl (h : BusInv s) (w : CtlWrite) : BusInv (writeCtl w s) := by
  unfold Machine.writeCtl
  have h1 := h.configured w
  dsimp only
  split <;> split
  · exact h1.requestStart.requestStop
  · exact h1.requestStop
  · exact h1.requestStart
  · exact h1

theorem writeTxbuf (h : BusInv s) (b : Byte) : BusInv (writeTxbuf b s) := by
  unfold Machine.writeTxbuf
  dsimp only
  split
  · exact { h with }
  · exact h.congr_awake (by simpa using ‹¬ s.ctl.swrst = true›) rfl rfl rfl rfl

theorem writeIfg (h : BusInv s) (r t n : Bool) : BusInv (writeIfg r t n s) := by
  unfold Machine.writeIfg
  split
  · exact h
  · exact h.congr_awake (by simpa using ‹¬ s.ctl.swrst = true›) rfl rfl rfl rfl

/-- Clearing RXIFG is no matter of SWRST, which clears it too. -/
theorem takeByte (h : BusInv s) : BusInv (s.setRxifg false) := by
  refine ⟨⟨h.resetHeld.1, fun hr => ?_⟩, h.noStopWhenIdle, h.framed⟩
  obtain ⟨htt, htp, hifg, hq⟩ := h.resetHeld.2 hr
  exact ⟨htt, htp, by simp [hifg], hq⟩

theorem storeData (h : BusInv s) (off : BitVec 7) (v : Word) : BusInv (storeData off v s) := by
  unfold Machine.storeData
  dsimp only
  split_ifs <;> exact { h with }

/-! ### Bus steps -/

theorem drawAck (h : BusInv s) : BusInv (drawAck s).2 :=
  ⟨by simpa [ResetHeld] using h.resetHeld, by simpa [NoStopWhenIdle] using h.noStopWhenIdle,
    by simpa [Framed, frameFor] using h.framed⟩

theorem drawByte (h : BusInv s) : BusInv (drawByte s).2 :=
  ⟨by simpa [ResetHeld] using h.resetHeld, by simpa [NoStopWhenIdle] using h.noStopWhenIdle,
    by simpa [Framed, frameFor] using h.framed⟩

theorem startWith (h : BusInv s) (he : startEnabled s = true) (ack : Bool) : BusInv (startWith ack s) := by
  simp only [startEnabled, State.configured, Bool.and_eq_true, Bool.or_eq_true, Bool.not_eq_true', beq_iff_eq] at he
  obtain ⟨⟨⟨-, -, hr⟩, hstp⟩, hph⟩ := he
  have hf := h.frameOf_trace
  have hopen : frameOf (s.trace ++ [if s.phase = .idle then .start else .restart]) = some .addressing := by
    obtain (hp | hp) | ⟨hp, -⟩ := hph <;> simp [frameOf_append, hf, frameFor, hp, hstp, frameStep]
  have htrace : (Machine.startWith ack s).trace =
      s.trace ++ [if s.phase = .idle then .start else .restart] ++ [.addr s.i2csa (!s.ctl.tr) ack] := by
    cases ack <;> cases htr : s.ctl.tr <;> simp [Machine.startWith, htr]
  cases ack <;> cases htr : s.ctl.tr <;>
    exact of_awake (by simpa [Machine.startWith, htr] using hr) (by simp [Machine.startWith, htr])
      (by simp [NoStopWhenIdle, Machine.startWith, htr])
      (by rw [Framed, htrace, frameOf_append, hopen]; simp [Machine.startWith, htr, frameStep, frameFor, hstp])

theorem txWith (h : BusInv s) (he : txEnabled s = true) (ack : Bool) : BusInv (txWith ack s) := by
  simp only [txEnabled, Bool.and_eq_true, beq_iff_eq] at he
  obtain ⟨hp, -⟩ := he
  have hr := h.swrst_eq_false (by simp [hp])
  have hf := h.frameOf_trace
  cases ack <;>
    exact of_awake (by simpa [Machine.txWith] using hr) (by simp [Machine.txWith, hp])
      (by simp [NoStopWhenIdle, Machine.txWith, hp])
      (by simp [Framed, Machine.txWith, frameOf_append, hf, frameStep, frameFor, hp])

theorem rxWith (h : BusInv s) (he : rxEnabled s = true) (b : Byte) : BusInv (rxWith b s) := by
  simp only [rxEnabled, Bool.and_eq_true, beq_iff_eq] at he
  obtain ⟨hp, -⟩ := he
  have hr := h.swrst_eq_false (by simp [hp])
  have hf := h.frameOf_trace
  cases htp : s.ctl.txstp <;> cases htt : s.ctl.txstt <;>
    exact of_awake (by simpa [Machine.rxWith, htp, htt] using hr) (by simp [Machine.rxWith, htp, htt, hp])
      (by simp [NoStopWhenIdle, Machine.rxWith, htp, htt, hp])
      (by simp [Framed, Machine.rxWith, htp, htt, frameOf_append, hf, frameStep, frameFor, hp])

theorem pStart (h : BusInv s) (he : startEnabled s = true) : BusInv (pStart s) :=
  h.drawAck.startWith (by simpa [startEnabled, State.configured] using he) _

theorem pTx (h : BusInv s) (he : txEnabled s = true) : BusInv (pTx s) :=
  h.drawAck.txWith (by simpa [txEnabled] using he) _

theorem pRx (h : BusInv s) (he : rxEnabled s = true) : BusInv (pRx s) :=
  h.drawByte.rxWith (by simpa [rxEnabled] using he) _

theorem pStop (h : BusInv s) (he : stopEnabled s = true) : BusInv (pStop s) := by
  simp only [stopEnabled, Bool.and_eq_true, Bool.or_eq_true, beq_iff_eq] at he
  obtain ⟨hstp, hph⟩ := he
  have hoff : s.phase ≠ .off := by obtain hp | ⟨hp, -⟩ := hph <;> simp [hp]
  have hf := h.frameOf_trace
  refine of_awake (h.swrst_eq_false hoff) (by simp [Machine.pStop]) (fun _ => rfl) ?_
  obtain hp | ⟨hp, -⟩ := hph <;> simp [Framed, Machine.pStop, frameOf_append, hf, frameStep, frameFor, hp, hstp]

theorem convWait (h : BusInv s) (t : Nat) : BusInv (s.log (.convWait t)) := by
  refine ⟨h.resetHeld, h.noStopWhenIdle, ?_⟩
  have hf := h.frameOf_trace
  simp [Framed, frameOf_append, hf, frameStep, frameFor]

theorem timeoutEffect (h : BusInv s) : BusInv (timeoutEffect s) := by
  have hq : BusInv (s.setTxstt false) :=
    ⟨⟨h.resetHeld.1, fun hr => ⟨rfl, (h.resetHeld.2 hr).2⟩⟩, h.noStopWhenIdle, h.framed⟩
  unfold Machine.timeoutEffect
  dsimp only
  split
  · exact { hq.requestStop with }
  · exact { hq with }

theorem blockReset (h : BusInv s) : BusInv (blockReset s) :=
  ⟨by simp [ResetHeld, Machine.blockReset, State.reset], by simp [NoStopWhenIdle, Machine.blockReset, State.reset],
    frameOf_abortIfOwned h.framed⟩

theorem act (h : BusInv s) {m : Micro} (ha : act m s = .ok t) : BusInv t := by
  cases m <;> simp only [Machine.act, Except.ok.injEq] at ha
  case writeCtl v => subst ha; exact h.writeCtl _
  case start tr => subst ha; exact h.writeCtl _
  case clearFlags => subst ha; exact h.writeIfg _ _ _
  case stop => subst ha; exact h.requestStop
  case send b => subst ha; exact h.writeTxbuf b
  case take => subst ha; exact { h.takeByte with }
  case calcTemp | calcPress => split at ha <;> cases ha; exact { h with }
  all_goals subst ha; exact { h with }

/-- The bus controller's part does not see the engine (42_transport.md R182, 60_exceptions.md R289). -/
theorem resume (h : BusInv s) : BusInv (resume s) :=
  runMicro_keeps (fun _ _ _ hx ha => { hx.act ha with }) (fun _ hx => { hx with }) (fun _ hx => { hx with })
    (fun _ _ hx => { hx with }) _ _ h

end BusInv

/-! ## What the bus controller leaves to the engine -/

/-- The running command, STATUS, the calibration store and the parameters are the same in both states. -/
structure SameCommand (s t : State) : Prop where
  eng : t.eng = s.eng
  status : t.status = s.status
  cal : t.cal = s.cal
  cfg : t.cfg = s.cfg

namespace SameCommand

theorem trans {s t u : State} (h : SameCommand s t) (k : SameCommand t u) : SameCommand s u :=
  ⟨k.eng.trans h.eng, k.status.trans h.status, k.cal.trans h.cal, k.cfg.trans h.cfg⟩

theorem abortIfOwned (s : State) : SameCommand s (abortIfOwned s) := by
  unfold Machine.abortIfOwned; split <;> exact ⟨rfl, rfl, rfl, rfl⟩

theorem configured (w : CtlWrite) (s : State) :
    SameCommand s (resetTransition s.ctl.swrst w.swrst (writeConfig w s)) := by
  obtain ⟨-, e⟩ | ⟨-, -, e⟩ | ⟨-, -, e⟩ := resetTransition_cases s.ctl.swrst w.swrst (writeConfig w s) <;> rw [e]
  · exact ⟨rfl, rfl, rfl, rfl⟩
  · obtain ⟨he, hs, hc, hg⟩ := abortIfOwned (writeConfig w s)
    exact ⟨he, hs, hc, hg⟩
  · exact ⟨rfl, rfl, rfl, rfl⟩

theorem requestStart (s : State) : SameCommand s (requestStart s) := by
  unfold Machine.requestStart; split <;> exact ⟨rfl, rfl, rfl, rfl⟩

theorem requestStop (s : State) : SameCommand s (requestStop s) := by
  obtain e | ⟨-, -, e⟩ | ⟨-, -, -, e⟩ := requestStop_cases s <;> rw [e] <;> exact ⟨rfl, rfl, rfl, rfl⟩

theorem writeCtl (w : CtlWrite) (s : State) : SameCommand s (writeCtl w s) := by
  unfold Machine.writeCtl
  have h1 := configured w s
  dsimp only
  split <;> split
  · exact (h1.trans (requestStart _)).trans (requestStop _)
  · exact h1.trans (requestStop _)
  · exact h1.trans (requestStart _)
  · exact h1

theorem writeTxbuf (b : Byte) (s : State) : SameCommand s (writeTxbuf b s) := by
  unfold Machine.writeTxbuf; dsimp only; split <;> exact ⟨rfl, rfl, rfl, rfl⟩

theorem writeIfg (r t n : Bool) (s : State) : SameCommand s (writeIfg r t n s) := by
  unfold Machine.writeIfg; split <;> exact ⟨rfl, rfl, rfl, rfl⟩

theorem storeData (off : BitVec 7) (v : Word) (s : State) : SameCommand s (storeData off v s) := by
  unfold Machine.storeData; dsimp only; split_ifs <;> exact ⟨rfl, rfl, rfl, rfl⟩

theorem startWith (ack : Bool) (s : State) : SameCommand s (startWith ack s) := by
  cases ack <;> cases htr : s.ctl.tr <;> constructor <;> simp [Machine.startWith, htr]

theorem txWith (ack : Bool) (s : State) : SameCommand s (txWith ack s) := by
  cases ack <;> exact ⟨rfl, rfl, rfl, rfl⟩

theorem rxWith (b : Byte) (s : State) : SameCommand s (rxWith b s) := by
  unfold Machine.rxWith; dsimp only; split_ifs <;> exact ⟨rfl, rfl, rfl, rfl⟩

theorem pStart (s : State) : SameCommand s (pStart s) :=
  trans ⟨drawAck_eng s, drawAck_status s, drawAck_cal s, drawAck_cfg s⟩ (startWith _ _)

theorem pTx (s : State) : SameCommand s (pTx s) :=
  trans ⟨drawAck_eng s, drawAck_status s, drawAck_cal s, drawAck_cfg s⟩ (txWith _ _)

theorem pRx (s : State) : SameCommand s (pRx s) :=
  trans ⟨drawByte_eng s, drawByte_status s, drawByte_cal s, drawByte_cfg s⟩ (rxWith _ _)

end SameCommand

/-! ## What an action of the engine leaves of its command -/

/-- An action of the engine leaves the command, its operands and its position, BUSY, DONE, OVR and ERR; of the command it changes only
the bytes collected, and CALV only together with the store. -/
structure CommandGoesOn (s t : State) : Prop where
  eng : ∃ d, t.eng = (setLocalBytes d s).eng
  status : ∃ b, t.status = { s.status with calv := b }
  storeBlank : StoreBlankUntilValid s → StoreBlankUntilValid t

theorem setLocalBytes_localBytes_eng (s : State) : (setLocalBytes (localBytes s) s).eng = s.eng := by
  cases h : s.eng <;> simp [localBytes, h]

theorem SameCommand.goesOn {s t : State} (h : SameCommand s t) : CommandGoesOn s t :=
  ⟨⟨localBytes s, h.eng.trans (setLocalBytes_localBytes_eng s).symm⟩, ⟨s.status.calv, h.status⟩,
    by unfold StoreBlankUntilValid; rw [h.status, h.cal]; exact id⟩

theorem act_commandGoesOn {m : Micro} {s t : State} (h : act m s = .ok t) : CommandGoesOn s t := by
  cases m <;> simp only [act, Except.ok.injEq] at h
  case writeCtl v => subst h; exact (SameCommand.writeCtl _ _).goesOn
  case start tr => subst h; exact (SameCommand.writeCtl _ _).goesOn
  case clearFlags => subst h; exact (SameCommand.writeIfg _ _ _ _).goesOn
  case stop => subst h; exact (SameCommand.requestStop _).goesOn
  case send b => subst h; exact (SameCommand.writeTxbuf _ _).goesOn
  case newRead => subst h; exact ⟨⟨[], rfl⟩, ⟨_, rfl⟩, id⟩
  case take => subst h; exact ⟨⟨_, rfl⟩, ⟨_, rfl⟩, id⟩
  case storeCal =>
    subst h
    exact ⟨⟨_, (setLocalBytes_localBytes_eng s).symm⟩, ⟨_, rfl⟩, fun _ hc => absurd hc (by simp)⟩
  case calcTemp | calcPress =>
    split at h <;> cases h
    exact SameCommand.goesOn ⟨rfl, rfl, rfl, rfl⟩
  all_goals subst h; exact SameCommand.goesOn ⟨rfl, rfl, rfl, rfl⟩

/-! ## The command's part of the invariant -/

/-- The clauses of the invariant about the running command and the store, its resting place apart. -/
structure CommandInv (s : State) : Prop where
  busyMatchesEngine : BusyMatchesEngine s
  runningNotDone : RunningNotDone s
  storeBlank : StoreBlankUntilValid s

namespace CommandInv

variable {s t : State}

theorem goesOn (h : CommandInv s) (k : CommandGoesOn s t) : CommandInv t := by
  obtain ⟨⟨d, he⟩, ⟨b, hs⟩, hb⟩ := k
  exact ⟨by simpa [BusyMatchesEngine, he, hs] using h.busyMatchesEngine,
    by simpa [RunningNotDone, hs] using h.runningNotDone, hb h.storeBlank⟩

theorem ended (hb : s.status.busy = false) (he : s.eng = none) (hc : StoreBlankUntilValid s) : CommandInv s :=
  ⟨by simp [BusyMatchesEngine, hb, he], by simp [RunningNotDone, hb], hc⟩

theorem advance (h : CommandInv s) : CommandInv (advance s) :=
  ⟨by simpa [BusyMatchesEngine] using h.busyMatchesEngine, h.runningNotDone, h.storeBlank⟩

theorem resume (h : CommandInv s) : CommandInv (resume s) :=
  runMicro_keeps (fun _ _ _ hx ha => (hx.goesOn (act_commandGoesOn ha)).advance) (fun _ hx => hx.advance)
    (fun _ hx => ended rfl rfl hx.storeBlank) (fun _ _ hx => ended rfl rfl hx.storeBlank) _ _ h

end CommandInv

/-! ## A run ends at a wait or with its command -/

theorem program_getLast? (cfg : Config) (c : Command) (arg : Word) (oss : BitVec 2) :
    (program cfg c arg oss).getLast? = some .finish := by
  cases c <;> simp [program]

theorem program_ne_nil (cfg : Config) (c : Command) (arg : Word) (oss : BitVec 2) : program cfg c arg oss ≠ [] := by
  intro h
  simpa [h] using program_getLast? cfg c arg oss

theorem finish_mem_remaining {s : State} (h : remaining s ≠ []) : .finish ∈ remaining s := by
  cases he : s.eng with
  | none => simp [remaining, he] at h
  | some r =>
    simp only [remaining, he] at h ⊢
    have hl : r.pos < (program s.cfg r.cmd r.arg r.oss).length := by simpa using h
    apply List.mem_of_getLast?
    rw [List.getLast?_drop, if_neg (by omega), program_getLast?]

theorem remaining_congr {s t : State} (he : t.eng = s.eng) (hc : t.cfg = s.cfg) : remaining t = remaining s := by
  simp [remaining, he, hc]

/-- The bytes collected are no part of the position. -/
theorem remaining_setLocalBytes (d : List Byte) (s : State) : remaining (setLocalBytes d s) = remaining s := by
  cases h : s.eng <;> simp [remaining, h]

theorem remaining_advance {s : State} {m : Micro} {rest : List Micro} (h : remaining s = m :: rest) :
    remaining (advance s) = rest := by
  cases he : s.eng with
  | none => simp [remaining, he] at h
  | some r =>
    simp only [remaining, he] at h
    simp [remaining, he, ← List.tail_drop, h]

theorem remaining_act {s t : State} {m : Micro} (h : act m s = .ok t) : remaining t = remaining s := by
  obtain ⟨d, he⟩ := (act_commandGoesOn h).eng
  rw [remaining_congr (s := setLocalBytes d s) he (act_frame h).1, remaining_setLocalBytes]

theorem engineAtWait_of_idle {s : State} (h : s.eng = none) : EngineAtWait s := by simp [EngineAtWait, h]

/-- The engine reacts in zero time: a run of what is left of the microprogram stops only at a wait that does not hold, or when the
command ends (42_transport.md R181). -/
theorem runMicro_engineAtWait (l : List Micro) (s : State) (hr : remaining s = l) (hf : .finish ∈ l) :
    EngineAtWait (runMicro l s) := by
  induction l generalizing s with
  | nil => simp at hf
  | cons m rest ih =>
    have hrest : m ≠ .finish → .finish ∈ rest := fun hm => (List.mem_cons.mp hf).resolve_left (Ne.symm hm)
    by_cases hm : m.isAct = true
    · rw [runMicro_act hm]
      cases ha : act m s with
      | ok s' => exact ih _ (remaining_advance ((remaining_act ha).trans hr)) (hrest (by rintro rfl; simp [Micro.isAct] at hm))
      | error e => exact engineAtWait_of_idle rfl
    · cases m <;> simp [Micro.isAct] at hm
      case wait c =>
        rw [runMicro_wait]
        split
        · exact ih _ (remaining_advance hr) (hrest (by simp))
        · simpa [EngineAtWait, hr] using fun _ => ‹¬ c.holds s = true›
      case convWait t => simp [EngineAtWait, hr]
      case finish => rw [runMicro_finish]; exact engineAtWait_of_idle rfl

theorem resume_engineAtWait {s : State} (h : s.eng.isSome = true → remaining s ≠ []) : EngineAtWait (resume s) := by
  cases he : s.eng with
  | none => rw [resume_idle he]; exact engineAtWait_of_idle he
  | some r => exact runMicro_engineAtWait _ s rfl (finish_mem_remaining (h (by simp [he])))

/-! ## The invariant -/

namespace Inv

variable {s t : State}

theorem busInv (h : Inv s) : BusInv s := { h with }

theorem commandInv (h : Inv s) : CommandInv s := { h with }

theorem of_parts (hb : BusInv s) (hc : CommandInv s) (hw : EngineAtWait s) : Inv s :=
  ⟨hb.resetHeld, hb.noStopWhenIdle, hc.busyMatchesEngine, hc.runningNotDone, hw, hc.storeBlank, hb.framed⟩

theorem eng_eq_none (h : Inv s) (hb : s.status.busy = false) : s.eng = none := by
  simpa [BusyMatchesEngine, hb] using h.busyMatchesEngine

theorem remaining_ne_nil (h : Inv s) (he : s.eng.isSome = true) : remaining s ≠ [] := by
  intro hr
  simpa [hr] using h.engineAtWait he

/-- While no command runs, an access that keeps the bus controller's part keeps the invariant. -/
theorem of_idle (h : Inv s) (hidle : s.status.busy = false) (hb : BusInv t) (hs : SameCommand s t) : Inv t :=
  of_parts hb (h.commandInv.goesOn hs.goesOn) (engineAtWait_of_idle (hs.eng.trans (h.eng_eq_none hidle)))

/-- Where no command runs, only the bus controller and the store are left to look at. -/
theorem of_ended (hbus : BusInv s) (hb : s.status.busy = false) (he : s.eng = none) (hc : StoreBlankUntilValid s) : Inv s :=
  of_parts hbus (.ended hb he hc) (engineAtWait_of_idle he)

/-- A run from anywhere in a microprogram ends in a state of the invariant. -/
theorem resume (hb : BusInv s) (hc : CommandInv s) (hr : s.eng.isSome = true → remaining s ≠ []) : Inv (resume s) :=
  of_parts hb.resume hc.resume (resume_engineAtWait hr)

/-- The engine's wait is tested again after a bus step, which leaves the command as it was (41_bus_controller.md R140). -/
theorem resume_same (h : Inv s) (hb : BusInv t) (hs : SameCommand s t) : Inv (Machine.resume t) :=
  resume hb (h.commandInv.goesOn hs.goesOn) (by
    rw [hs.eng, remaining_congr hs.eng hs.cfg]; exact h.remaining_ne_nil)

end Inv

/-- Each agent's step keeps the invariant: while idle it must keep the bus controller's part only, and what may release the engine
from its wait is followed by a run (42_transport.md R181). -/
theorem inv_stepClosed : StepClosed Inv where
  agenda s l h := { h with }
  note s v h := { h with }
  ovr s h _ := { h with }
  take s h hb := h.of_idle hb h.busInv.takeByte ⟨rfl, rfl, rfl, rfl⟩
  ctl s w h hb := h.of_idle hb (h.busInv.writeCtl w) (.writeCtl w s)
  txbuf s b h hb := h.of_idle hb (h.busInv.writeTxbuf b) (.writeTxbuf b s)
  ifg s r t n h hb := h.of_idle hb (h.busInv.writeIfg r t n) (.writeIfg r t n s)
  sa s a h hb := h.of_idle hb { h with } ⟨rfl, rfl, rfl, rfl⟩
  brw s d h hb := h.of_idle hb { h with } ⟨rfl, rfl, rfl, rfl⟩
  data s off v h hb := h.of_idle hb (h.busInv.storeData off v) (.storeData off v s)
  refused s w e h _ := .of_ended { h with } rfl rfl h.storeBlank
  taken s w c h _ _ := .resume { h with } ⟨rfl, fun _ => ⟨rfl, rfl⟩, h.storeBlank⟩ fun _ => program_ne_nil _ _ _ _
  start s h he := h.resume_same (h.busInv.pStart he) (.pStart s)
  tx s h he := h.resume_same (h.busInv.pTx he) (.pTx s)
  rx s h he := h.resume_same (h.busInv.pRx he) (.pRx s)
  stop s h he := h.resume_same (h.busInv.pStop he) ⟨rfl, rfl, rfl, rfl⟩
  conv s t rest h hr := by
    have hb := h.busInv.convWait t
    have hf : .finish ∈ rest := by simpa [hr] using finish_mem_remaining (s := s) (by simp [hr])
    refine .resume { hb with } (CommandInv.advance (s := s.log _) { h with }) fun _ => ?_
    rw [remaining_advance (s := s.log (.convWait t)) hr]
    exact List.ne_nil_of_mem hf
  timeout s h _ := by
    refine .of_ended h.busInv.timeoutEffect rfl rfl ?_
    unfold timeoutEffect
    dsimp only
    split
    · exact (SameCommand.requestStop _).goesOn.storeBlank h.storeBlank
    · exact h.storeBlank
  reset s h := .of_ended h.busInv.blockReset rfl rfl fun _ => rfl

/-- Settles O3, by the closure of the invariant under each agent's step. -/
theorem everyStepKeepsInvariant : Obligations.EveryStepKeepsInvariant :=
  fun _ _ h hs => inv_stepClosed.step h hs

end Sys2Proof.Machine
end

section
/-! Proofs. O15: what a write of CMD does with the word, for every word: a legal one issues its command, every other one is refused. -/

namespace Sys2Proof.Machine

/-- A word is its three fields of format F-CMD (30_encoding.md R111), most significant first. -/
theorem word_fields (w : Word) : w.extractLsb' 6 10 ++ w.extractLsb' 4 2 ++ w.extractLsb' 0 4 = w := by
  rw [BitVec.extractLsb'_append_extractLsb'_eq_extractLsb' (by rfl), BitVec.extractLsb'_append_extractLsb'_eq_extractLsb' (by rfl)]
  exact BitVec.extractLsb'_eq_self

theorem commandWord_of_fields {w : Word} {op : Nat} (hrsv : w.extractLsb' 6 10 = 0#10) (hop : (w.extractLsb' 0 4).toNat = op) :
    commandWord (BitVec.ofNat 4 op) (w.extractLsb' 4 2) = w := by
  rw [← hop, BitVec.ofNat_toNat, BitVec.setWidth_eq, commandWord, ← hrsv, word_fields]

/-- The instruction a command word decodes to issues that word (30_encoding.md R113, R114). -/
theorem exec_of_decodeCommand {w : Word} {i : Instr} (h : decodeCommand w = some i) :
    ∃ c, ∀ s, exec i s = .next (issue w c s) := by
  unfold decodeCommand at h
  split at h
  case isFalse => cases h
  case isTrue hrsv =>
    dsimp only at h
    split at h <;> cases h
    all_goals
      have hw := commandWord_of_fields hrsv ‹_›
      exact ⟨_, fun s => congrArg (fun v => Host.Outcome.next (issue v _ s)) hw⟩

theorem decode_cmd_of_some {w : Word} {i : Instr} (h : decodeCommand w = some i) (swrst : Bool) :
    decode swrst (.host (.write 2 offCmd w)) = .ok i := by
  simp [decode, Access.shapeOk, decodeAccess, offCmd, offI2cctl, offI2cbrw, offI2ctxbuf, offI2csa, offI2cifg, h]

theorem decode_cmd_of_none {w : Word} (h : decodeCommand w = none) (swrst : Bool) :
    decode swrst (.host (.write 2 offCmd w)) = .error (.illegalCommand w) := by
  simp [decode, Access.shapeOk, decodeAccess, offCmd, offI2cctl, offI2cbrw, offI2ctxbuf, offI2csa, offI2cifg, h]

/-- A host write of CMD issues a command with the word written, or reports the word as illegal (42_transport.md R180). -/
theorem hostAccess_cmd (w : Word) :
    (∃ c, ∀ s, hostAccess (.write 2 offCmd w) s = .next (issue w c s)) ∨
    (∀ s, hostAccess (.write 2 offCmd w) s = .next (issueIllegal w s)) := by
  cases hd : decodeCommand w with
  | some i =>
    obtain ⟨c, hc⟩ := exec_of_decodeCommand hd
    exact .inl ⟨c, fun s => by rw [hostAccess, decode_cmd_of_some hd]; exact hc s⟩
  | none => exact .inr fun s => by rw [hostAccess, decode_cmd_of_none hd]

/-- The engine never sets OVR: a run leaves it as it is. -/
theorem resume_ovr (s : State) : (resume s).status.ovr = s.status.ovr := by
  refine runMicro_keeps (P := fun x => x.status.ovr = s.status.ovr) (fun m x x' hx ha => ?_) (fun _ hx => hx) (fun _ hx => hx)
    (fun _ _ hx => hx) _ _ rfl
  obtain ⟨b, hs⟩ := (act_commandGoesOn ha).status
  simpa [hs] using hx

/-- A command word that is taken or refused at issue stands in CMD, with OVR clear (42_transport.md R180). -/
theorem issue_idle {s : State} (h : s.status.busy = false) (w : Word) (c : Command) :
    (issue w c s).status.ovr = false ∧ (issue w c s).cmd = w := by
  cases hr : refusedAtIssue c s with
  | some e => rw [issue_refused h hr]; exact ⟨rfl, rfl⟩
  | none =>
    rw [issue_taken h hr]
    obtain ⟨-, -, -, -, hcmd, -⟩ := resume_frame (takeCommand w c (acceptWord w s))
    exact ⟨resume_ovr _, hcmd⟩

theorem issueIllegal_busy {s : State} (h : s.status.busy = true) (w : Word) : issueIllegal w s = s.setOvr := by
  simp [issueIllegal, h]

theorem issueIllegal_idle {s : State} (h : s.status.busy = false) (w : Word) :
    issueIllegal w s = raise .illegalCmd (acceptWord w s) := by
  simp [issueIllegal, h]

/-- Settles O15, by the two things a write of CMD can do with its word. -/
theorem overrunSetAndCleared : Obligations.OverrunSetAndCleared := by
  intro s w
  obtain ⟨c, hc⟩ | hi := hostAccess_cmd w
  · exact ⟨fun hb => by rw [hc, issue_busy hb]; rfl, fun hb => ⟨_, hc s, issue_idle hb w c⟩⟩
  · exact ⟨fun hb => by rw [hi, issueIllegal_busy hb]; rfl,
      fun hb => ⟨_, hi s, by rw [issueIllegal_idle hb]; exact ⟨rfl, rfl⟩⟩⟩

end Sys2Proof.Machine
end

section
/-! Proofs. O13: the shape of a host access decides whether it is carried out. -/

namespace Sys2Proof.Machine

/-- No instruction is refused or faults. -/
theorem exec_eq_next (i : Instr) (s : State) : ∃ t, exec i s = .next t := by
  cases i <;> exact ⟨_, rfl⟩

/-- The rows and the accesses without a row cover every register: none is refused for its shape here (20_memory.md R84, R85). -/
theorem decodeAccess_ne_accessShape (swrst : Bool) (a : Access) : decodeAccess swrst a ≠ .error .accessShape := by
  cases a with
  | read _ off => simp only [decodeAccess]; split <;> simp
  | write _ off v =>
    cases hc : decodeCommand v
    all_goals
      simp only [decodeAccess, hc]
      split_ifs <;> simp

/-- An access of another shape is refused by name (20_memory.md R81). -/
theorem hostAccess_of_not_shapeOk {a : Access} (h : a.shapeOk = false) (s : State) :
    hostAccess a s = .refused .accessShape := by
  simp [hostAccess, decode, h]

/-- An access of the admitted shape answers a next state (20_memory.md R81). -/
theorem hostAccess_of_shapeOk {a : Access} (h : a.shapeOk = true) (s : State) : ∃ t, hostAccess a s = .next t := by
  have hd : decode s.ctl.swrst (.host a) = decodeAccess s.ctl.swrst a := by simp [decode, h]
  unfold hostAccess
  split
  case h_1 i _ => exact exec_eq_next i s
  case h_5 he => exact absurd (hd.symm.trans he) (decodeAccess_ne_accessShape _ _)
  all_goals exact ⟨_, rfl⟩

theorem step_access_refused {s : State} {a : Access} {rest : List Move} (h : a.shapeOk = false)
    (hs : s.agenda = .access a :: rest) : step s = .refused .accessShape :=
  (step_move hs).trans (hostAccess_of_not_shapeOk h _)

theorem step_access_next {s : State} {a : Access} {rest : List Move} (h : a.shapeOk = true)
    (hs : s.agenda = .access a :: rest) : ∃ t, step s = .next t := by
  rw [step_move hs]
  exact hostAccess_of_shapeOk h _

theorem shapeOk_read_eq_false {n : Nat} {off : BitVec 7} (h : n ≠ 2 ∨ off.toNat % 2 = 1) : (Access.read n off).shapeOk = false := by
  obtain hn | hodd := h
  · simp [Access.shapeOk, hn]
  · simp [Access.shapeOk, hodd]

/-- The word written is no part of an access's shape. -/
theorem shapeOk_write (n : Nat) (off : BitVec 7) (v : Word) : (Access.write n off v).shapeOk = (Access.read n off).shapeOk := rfl

theorem shapeOk_read_two {off : BitVec 7} (h : off.toNat % 2 = 0) : (Access.read 2 off).shapeOk = true := by
  simp [Access.shapeOk, h]

/-- Settles O13, by the shape of the access at the head of the agenda. -/
theorem onlyWordAccessesAdmitted : Obligations.OnlyWordAccessesAdmitted := by
  refine ⟨fun s rest n off v h => ?_, fun s rest off v h => ?_⟩
  · have hr := shapeOk_read_eq_false h
    exact ⟨step_access_refused hr, step_access_refused ((shapeOk_write n off v).trans hr)⟩
  · have hr := shapeOk_read_two h
    exact ⟨step_access_next hr, step_access_next ((shapeOk_write 2 off v).trans hr)⟩

end Sys2Proof.Machine
end

section
/-! Proofs. O23, O27, O29 and O30: register actions of the bus controller as host writes, each under both values of SWRST. -/

namespace Sys2Proof.Machine

/-! ## Host writes -/

/-- While no command runs the busy lock lets a host write through (20_memory.md R89). -/
theorem hostWrite_idle {s : State} (h : s.status.busy = false) (f : State → State) : hostWrite f s = f s := by
  simp [hostWrite, h]

/-- A host access that has a row of the opcode table is that row's instruction (30_encoding.md R119). -/
theorem hostAccess_of_decode {a : Access} {i : Instr} {s : State} (h : decode s.ctl.swrst (.host a) = .ok i) :
    hostAccess a s = exec i s := by
  simp only [hostAccess, h]

/-! ## Entering reset -/

/-- A write of I2CCTL that requests neither START nor STOP (41_bus_controller.md R141 to R143). -/
theorem writeCtl_of_no_request {w : CtlWrite} (hstt : w.txstt = false) (hstp : w.txstp = false) (s : State) :
    writeCtl w s = resetTransition s.ctl.swrst w.swrst (writeConfig w s) := by
  simp [writeCtl, hstt, hstp]

theorem resetTransition_same (b : Bool) (s : State) : resetTransition b b s = s := by
  cases b <;> rfl

/-- A write that keeps SWRST leaves of its configuration the fields beside SWRST. -/
theorem writeConfig_of_same_swrst {w : CtlWrite} {s : State} (h : w.swrst = s.ctl.swrst) :
    writeConfig w s = { s with ctl := configured' w s.ctl } := by
  simp [writeConfig, configured', h]

/-- The phases in which this master owns the bus (10_state.md R39). -/
theorem Phase.owns_iff (ph : Phase) : ph.owns = true ↔ ph = .tx ∨ ph = .rx ∨ ph = .hold := by
  cases ph <;> simp [Phase.owns]

/-- ABORT is logged on an owned bus, and nothing else changes. -/
theorem abortIfOwned_eq (s : State) :
    abortIfOwned s = { s with trace := if s.phase.owns then s.trace ++ [.abort] else s.trace } := by
  unfold abortIfOwned
  split <;> rfl

theorem exec_ctlEnterReset_idle {s : State} (h : s.status.busy = false) (w : CtlWrite) :
    exec (.ctlEnterReset w) s = .next (writeCtl w s) :=
  congrArg Host.Outcome.next (hostWrite_idle h _)

/-- Settles O23, by the reset transition the write makes from either value of SWRST. -/
theorem enterResetClearsController : Obligations.EnterResetClearsController := by
  intro w s hb hw hstt hstp
  rw [exec_ctlEnterReset_idle hb, writeCtl_of_no_request hstt hstp]
  refine ⟨fun hr => ?_, fun hr => ?_⟩
  · have henter : resetTransition false true (writeConfig w s) = enterReset (writeConfig w s) := rfl
    rw [hr, hw, henter, enterReset, abortIfOwned_eq]
    simp [configured', hw, Phase.owns_iff]
  · have hsame : w.swrst = s.ctl.swrst := hw.trans hr.symm
    rw [hsame, resetTransition_same, writeConfig_of_same_swrst hsame]

/-! ## The transmit buffer -/

theorem writeTxbuf_awake {s : State} (h : s.ctl.swrst = false) (b : Byte) :
    writeTxbuf b s = { s with i2ctxbuf := b, txpending := true, ifg := { s.ifg with txifg := false } } := by
  simp [writeTxbuf, h, State.setTxifg]

theorem writeTxbuf_held {s : State} (h : s.ctl.swrst = true) (b : Byte) : writeTxbuf b s = { s with i2ctxbuf := b } := by
  simp [writeTxbuf, h]

theorem exec_txByte_idle {s : State} (h : s.status.busy = false) (b : Byte) : exec (.txByte b) s = .next (writeTxbuf b s) :=
  congrArg Host.Outcome.next (hostWrite_idle h _)

/-- Settles O27: a write of I2CTXBUF queues its byte exactly while SWRST = 0. -/
theorem sendByteQueues : Obligations.SendByteQueues := by
  refine ⟨fun v s => hostAccess_of_decode rfl, fun b s hb => ?_⟩
  rw [exec_txByte_idle hb]
  exact ⟨fun hr => by rw [writeTxbuf_awake hr], fun hr => by rw [writeTxbuf_held hr]⟩

/-! ## The flags -/

theorem writeIfg_awake {s : State} (h : s.ctl.swrst = false) (r t n : Bool) : writeIfg r t n s = { s with ifg := ⟨r, t, n⟩ } := by
  simp [writeIfg, h]

theorem writeIfg_held {s : State} (h : s.ctl.swrst = true) (r t n : Bool) : writeIfg r t n s = s := by
  simp [writeIfg, h]

theorem exec_ifgWrite_idle {s : State} (h : s.status.busy = false) (r t n : Bool) :
    exec (.ifgWrite r t n) s = .next (writeIfg r t n s) :=
  congrArg Host.Outcome.next (hostWrite_idle h _)

/-- Settles O29: a write of I2CIFG reaches the flags exactly while SWRST = 0. -/
theorem flagWriteStoresFlags : Obligations.FlagWriteStoresFlags := by
  refine ⟨fun v s => hostAccess_of_decode rfl, fun r t n s hb => ?_⟩
  rw [exec_ifgWrite_idle hb]
  exact ⟨fun hr => by rw [writeIfg_awake hr], fun hr => by rw [writeIfg_held hr]⟩

/-! ## The peer address and the divisor -/

theorem exec_saWrite_idle {s : State} (h : s.status.busy = false) (a : BitVec 7) :
    exec (.saWrite a) s = .next { s with i2csa := a } :=
  congrArg Host.Outcome.next (hostWrite_idle h (writeSa a))

theorem exec_brwWrite_idle {s : State} (h : s.status.busy = false) (div : Word) :
    exec (.brwWrite div) s = .next { s with i2cbrw := div } :=
  congrArg Host.Outcome.next (hostWrite_idle h (writeBrw div))

/-- Settles O30, by the row each of the two writes decodes to and what that row stores. -/
theorem addressAndDivisorWrites : Obligations.AddressAndDivisorWrites := fun _ _ hb =>
  ⟨hostAccess_of_decode rfl, exec_saWrite_idle hb _, hostAccess_of_decode rfl, exec_brwWrite_idle hb _⟩

end Sys2Proof.Machine
end

section
/-! Proofs. O38: INIT is three writes of I2CCTL that request nothing, with the divisor and the peer address between them. -/

namespace Sys2Proof.Machine

/-! ## Writes of I2CCTL that request nothing -/

/-- `controlWritten` is what a write that requests neither START nor STOP does (41_bus_controller.md R141 to R143). -/
theorem writeCtl_eq_controlWritten {w : CtlWrite} {s : State} (hs : ResetHeld s) (hstt : w.txstt = false) (hstp : w.txstp = false) :
    writeCtl w s = controlWritten w s := by
  obtain ⟨hoff, hclear⟩ := hs
  rw [writeCtl_of_no_request hstt hstp]
  cases hr : s.ctl.swrst <;> cases hw : w.swrst
  case false.false => simp [resetTransition, writeConfig, controlWritten, configured', hr, hw, hstt, hstp]
  case false.true =>
    cases ho : s.phase.owns <;>
      simp [resetTransition, enterReset, abortIfOwned_eq, writeConfig, controlWritten, configured', hw, ho]
  case true.false =>
    obtain ⟨htt, htp, hifg, hq⟩ := hclear hr
    simp [resetTransition, leaveReset, State.setPhase, writeConfig, controlWritten, configured', *]
  case true.true =>
    obtain ⟨htt, htp, hifg, hq⟩ := hclear hr
    have hp := hoff.mp hr
    simp [resetTransition, writeConfig, controlWritten, configured', Phase.owns, *]

/-- A write of I2CCTL keeps what SWRST holds (10_state.md R31). -/
theorem ResetHeld.controlWritten {s : State} (hs : ResetHeld s) (w : CtlWrite) : ResetHeld (controlWritten w s) := by
  obtain ⟨hoff, -⟩ := hs
  cases hw : w.swrst with
  | true => simp [ResetHeld, Machine.controlWritten, hw]
  | false =>
    cases hr : s.ctl.swrst with
    | true => simp [ResetHeld, Machine.controlWritten, hw, hr]
    | false => simpa [ResetHeld, Machine.controlWritten, hw, hr] using hoff

/-! ## INIT -/

theorem runMicro_of_act {m : Micro} {s t : State} (hm : m.isAct = true) (ha : act m s = .ok t) (rest : List Micro) :
    runMicro (m :: rest) s = runMicro rest (advance t) := by
  rw [runMicro_act hm, ha]

/-- An engine write of I2CCTL that requests nothing. -/
theorem runMicro_writeCtl {v : Word} {s : State} (hs : ResetHeld s) (hstt : (decodeCtlWrite v).txstt = false)
    (hstp : (decodeCtlWrite v).txstp = false) (rest : List Micro) :
    runMicro (.writeCtl v :: rest) s = runMicro rest (advance (controlWritten (decodeCtlWrite v) s)) := by
  rw [← writeCtl_eq_controlWritten hs hstt hstp]
  exact runMicro_of_act rfl rfl rest

/-- The controller after INIT (42_transport.md R183): configured as a master, its bus taken to be free. -/
def controllerInitialised (s : State) : State :=
  { s with
    ctl := ⟨false, false, false, false, 0b10#2, true, 0b11#2, true⟩
    i2cbrw := Config.busClkDiv
    i2csa := s.cfg.devAddr
    phase := .idle
    txpending := false
    ifg := ⟨false, false, false⟩
    trace := if s.phase = .tx ∨ s.phase = .rx ∨ s.phase = .hold then s.trace ++ [.abort] else s.trace }

/-- INIT never waits: its accesses run to the end of the command, the first into reset and the last out of it. -/
theorem runMicro_init {s : State} (hs : ResetHeld s) (cfg : Config) (arg : Word) (oss : BitVec 2) :
    runMicro (program cfg .init arg oss) s = done (controllerInitialised s) := by
  have hreset : ResetHeld (advance (controlWritten (decodeCtlWrite 0x0001#16) s)) := hs.controlWritten _
  have hconfig := hreset.controlWritten (decodeCtlWrite 0x0F81#16)
  rw [program, runMicro_writeCtl hs rfl rfl, runMicro_writeCtl hreset rfl rfl, runMicro_of_act rfl rfl, runMicro_of_act rfl rfl,
    runMicro_writeCtl ?hlast rfl rfl, runMicro_finish]
  case hlast => exact hconfig
  cases hp : s.phase <;>
    simp [done, advance, controlWritten, configured', controllerInitialised, decodeCtlWrite, writeBrw, writeSa, Phase.owns, hp]

/-- Settles O38: INIT passes the checks at issue and its microprogram runs to the end in the issuing step. -/
theorem initConfiguresController : Obligations.InitConfiguresController := by
  intro oss s hs hb
  have hexec : exec (.init oss) s = .next (issue (commandWord 0x1#4 oss) .init s) := rfl
  have htaken : ResetHeld (takeCommand (commandWord 0x1#4 oss) .init (acceptWord (commandWord 0x1#4 oss) s)) := hs
  rw [hexec, issue_taken hb rfl]
  exact congrArg Host.Outcome.next (runMicro_init htaken s.cfg s.arg (wordOss (commandWord 0x1#4 oss)))

end Sys2Proof.Machine
end

section
/-! Proofs. O60: the three bytes of a raw pressure are the digits of one 24-bit number in base 256, and the shift divides that number. -/

namespace Sys2Proof.Machine

theorem toNat_append_byte {n : Nat} (x : BitVec n) (b : Byte) : (x ++ b).toNat = x.toNat * 256 + b.toNat := by
  rw [BitVec.toNat_append, ← Nat.shiftLeft_add_eq_or_of_lt b.isLt, Nat.shiftLeft_eq]

/-- UPASM as a division of the 24-bit number (44_measurement.md R224). -/
theorem upOf_toNat (d0 d1 d2 : Byte) (oss : BitVec 2) :
    (upOf [d0, d1, d2] oss).toNat = (d0.toNat * 65536 + d1.toNat * 256 + d2.toNat) / 2 ^ (8 - oss.toNat) := by
  have hraw : (0x00#8 ++ d0 ++ d1 ++ d2).toNat = d0.toNat * 65536 + d1.toNat * 256 + d2.toNat := by
    simp only [toNat_append_byte, BitVec.toNat_ofNat]
    omega
  rw [← hraw, ← Nat.shiftRight_eq_div_pow]
  exact BitVec.toNat_ushiftRight ..

/-- The shift leaves 16 + oss of the 24 bits. -/
theorem upOf_lt (d0 d1 d2 : Byte) (oss : BitVec 2) : (upOf [d0, d1, d2] oss).toNat < 2 ^ (16 + oss.toNat) := by
  have hbits : 2 ^ (8 - oss.toNat) * 2 ^ (16 + oss.toNat) = 2 ^ 24 := by
    rw [← Nat.pow_add]
    congr 1
    omega
  rw [upOf_toNat]
  apply Nat.div_lt_of_lt_mul
  rw [hbits]
  omega

/-- Settles O60, from the 24-bit number that UPASM divides. -/
theorem rawPressureAssembly : Obligations.RawPressureAssembly := by
  intro d0 d1 d2 oss
  have hlt := upOf_lt d0 d1 d2 oss
  have hmax : 2 ^ (16 + oss.toNat) ≤ 2 ^ 19 := Nat.pow_le_pow_right (by decide) (by omega)
  exact ⟨upOf_toNat d0 d1 d2 oss, hlt, by omega⟩

end Sys2Proof.Machine
end

section
/-! Proofs. O42 and O43: the microprogram of CALC_T and of CALC_P is one action and the end, so the command ends in the issuing step with what that action answers. -/

namespace Sys2Proof.Machine

/-! ## Issue -/

/-- The OSS the engine latches from a command word is the one the word was built with (30_encoding.md R111). -/
theorem wordOss_commandWord (op : BitVec 4) (oss : BitVec 2) : wordOss (commandWord op oss) = oss := by
  revert op oss
  decide

/-- A command refused at issue ends there with the refusal's code (42_transport.md R180, 60_exceptions.md R289). -/
theorem issue_refused_ended {s : State} {c : Command} {e : Err} (hb : s.status.busy = false) (hr : refusedAtIssue c s = some e)
    (w : Word) : issue w c s = endedAtOnce w e s :=
  issue_refused hb hr w

/-- Of the checks at issue, the commands that use the pipeline have only the one on the store (60_exceptions.md R283). -/
theorem refusedAtIssue_of_pipeline {c : Command} (hc : c = .measureT ∨ c = .measureP ∨ c = .calcT ∨ c = .calcP) (s : State) :
    refusedAtIssue c s = if s.status.calv = false then some .uninitCal else none := by
  have hcount : c ≠ .readBytes := by rintro rfl; simp at hc
  simp [refusedAtIssue, hcount, hc]

/-! ## A command of one action -/

section
variable {s : State} {w : Word} {c : Command} {m : Micro} (hb : s.status.busy = false) (hr : refusedAtIssue c s = none)
  (hp : program s.cfg c s.arg (wordOss w) = [m, .finish])
include hb hr hp

/-- A command whose microprogram is one item and the end runs that item in the issuing step (42_transport.md R181). -/
theorem issue_of_program_single : issue w c s = runMicro [m, .finish] (takeCommand w c (acceptWord w s)) := by
  rw [issue_taken hb hr, ← hp]
  rfl

theorem issue_of_act_ok (hm : m.isAct = true) {t : State} (ha : act m (takeCommand w c (acceptWord w s)) = .ok t) :
    issue w c s = done t := by
  rw [issue_of_program_single hb hr hp, runMicro_of_act hm ha, runMicro_finish]
  rfl

theorem issue_of_act_error (hm : m.isAct = true) {e : Err} (ha : act m (takeCommand w c (acceptWord w s)) = .error e) :
    issue w c s = endedAtOnce w e s := by
  rw [issue_of_program_single hb hr hp, runMicro_act hm, ha]
  rfl

end

/-- A pipeline command of one action, which stores the result `x` of a computation by `f`: with a valid store it ends with the result
stored or with the computation's error, without one it is refused. -/
theorem issue_of_pipeline_act {s : State} {w : Word} {c : Command} {m : Micro} {α : Type} {x : Except Err α} {f : α → State}
    (hb : s.status.busy = false) (hc : c = .measureT ∨ c = .measureP ∨ c = .calcT ∨ c = .calcP)
    (hp : program s.cfg c s.arg (wordOss w) = [m, .finish]) (hm : m.isAct = true)
    (ha : act m (takeCommand w c (acceptWord w s)) = x.map f) :
    (s.status.calv = true → ∀ v, x = .ok v → issue w c s = done (f v)) ∧
    (s.status.calv = true → ∀ e, x = .error e → issue w c s = endedAtOnce w e s) ∧
    (s.status.calv = false → issue w c s = endedAtOnce w .uninitCal s) := by
  have hcheck := refusedAtIssue_of_pipeline hc s
  refine ⟨fun hv v hx => ?_, fun hv e hx => ?_, fun hv => ?_⟩
  · exact issue_of_act_ok hb (by simpa [hv] using hcheck) hp hm (by rw [ha, hx]; rfl)
  · exact issue_of_act_error hb (by simpa [hv] using hcheck) hp hm (by rw [ha, hx]; rfl)
  · exact issue_refused_ended hb (by simpa [hv] using hcheck) w

/-! ## The two actions of the pipeline -/

/-- T10 takes the value of TEMP, if it has one (45_pipeline.md R244). -/
theorem act_calcTemp (s : State) :
    act .calcTemp s = (temp s.cfg.tempArith s.cal s.ut.toNat).map fun v => { s with t10 := BitVec.ofInt 32 v } := by
  rw [act]
  cases temp s.cfg.tempArith s.cal s.ut.toNat <;> rfl

/-- B5 and P take the values of PRESS together, if it has them (45_pipeline.md R251). -/
theorem act_calcPress (s : State) :
    act .calcPress s = (press s.cal s.up.toNat s.ut.toNat (engOss s).toNat).map fun r =>
      { s with b5 := BitVec.ofInt 32 r.1, p := BitVec.ofInt 32 r.2 } := by
  rw [act]
  cases press s.cal s.up.toNat s.ut.toNat (engOss s).toNat <;> rfl

/-- Settles O42, by what the one action of CALC_T answers. -/
theorem calcTComputesT10 : Obligations.CalcTComputesT10 := by
  intro oss s hb w
  have hexec : exec (.calcT oss) s = .next (issue w .calcT s) := rfl
  obtain ⟨hvalue, herror, hrefused⟩ := issue_of_pipeline_act (w := w) (c := .calcT) hb (by simp) rfl rfl (act_calcTemp _)
  rw [hexec]
  exact ⟨fun hv t ht => congrArg _ (hvalue hv t ht), fun hv e ht => congrArg _ (herror hv e ht),
    fun hv => congrArg _ (hrefused hv)⟩

/-- Settles O43, by what the one action of CALC_P answers with the OSS of the word. -/
theorem calcPComputesPressure : Obligations.CalcPComputesPressure := by
  intro oss s hb w
  have hexec : exec (.calcP oss) s = .next (issue w .calcP s) := rfl
  have hoss : engOss (takeCommand w .calcP (acceptWord w s)) = oss := wordOss_commandWord _ oss
  have hact := act_calcPress (takeCommand w .calcP (acceptWord w s))
  rw [hoss] at hact
  obtain ⟨hvalue, herror, hrefused⟩ := issue_of_pipeline_act hb (by simp) rfl rfl hact
  rw [hexec]
  exact ⟨fun hv b q hq => congrArg _ (hvalue hv (b, q) hq), fun hv e hq => congrArg _ (herror hv e hq),
    fun hv => congrArg _ (hrefused hv)⟩

end Sys2Proof.Machine
end

section
/-! Proofs. O14: every host write but that of CMD is one store under the busy lock, whatever row carries it. -/

namespace Sys2Proof.Machine

/-- While a command runs the busy lock ignores a host write (20_memory.md R89). -/
theorem hostWrite_busy {s : State} (h : s.status.busy = true) (f : State → State) : hostWrite f s = s := by
  simp [hostWrite, h]

/-- The five rows of I2CCTL are the same write, under the busy lock (10_state.md R37). -/
theorem exec_decodeCtl (swrst : Bool) (w : CtlWrite) (s : State) :
    exec (decodeCtl swrst w) s = .next (hostWrite (writeCtl w) s) := by
  unfold decodeCtl
  split_ifs <;> rfl

/-- A write of any register but CMD is a row that stores under the busy lock, or has no row (20_memory.md R84, R85). -/
theorem decodeAccess_write {off : BitVec 7} (h : off ≠ offCmd) (swrst : Bool) (n : Nat) (v : Word) :
    (∃ i f, decodeAccess swrst (.write n off v) = .ok i ∧ ∀ s, exec i s = .next (hostWrite f s)) ∨
    decodeAccess swrst (.write n off v) = .error .plainAccess := by
  simp only [decodeAccess, if_neg h]
  split_ifs
  case pos => exact .inl ⟨_, _, rfl, exec_decodeCtl swrst _⟩
  case neg => exact .inr rfl
  all_goals exact .inl ⟨_, _, rfl, fun _ => rfl⟩

/-- A host write at an even offset but CMD is a store under the busy lock (20_memory.md R89). -/
theorem hostAccess_write {off : BitVec 7} (heven : off.toNat % 2 = 0) (h : off ≠ offCmd) (v : Word) (s : State) :
    ∃ f, hostAccess (.write 2 off v) s = .next (hostWrite f s) := by
  have hshape : (Access.write 2 off v).shapeOk = true := (shapeOk_write 2 off v).trans (shapeOk_read_two heven)
  have hd : decode s.ctl.swrst (.host (.write 2 off v)) = decodeAccess s.ctl.swrst (.write 2 off v) := if_pos hshape
  obtain ⟨i, f, hi, hf⟩ | hplain := decodeAccess_write h s.ctl.swrst 2 v
  · exact ⟨f, (hostAccess_of_decode (hd.trans hi)).trans (hf s)⟩
  · exact ⟨storeData off v, by simp only [hostAccess, hd, hplain, plainAccess]⟩

/-- Settles O14: the busy lock ignores the store of every register but CMD, and CMD answers a running command with OVR. -/
theorem busyLockIgnoresHostWrites : Obligations.BusyLockIgnoresHostWrites := by
  intro s rest off v hb heven hs
  rw [step_move hs]
  refine ⟨fun hoff => ?_, fun hoff => ?_⟩
  · obtain ⟨f, hf⟩ := hostAccess_write heven hoff v { s with agenda := rest }
    exact hf.trans (congrArg Host.Outcome.next (hostWrite_busy (s := { s with agenda := rest }) hb f))
  · obtain ⟨hovr, -⟩ := overrunSetAndCleared { s with agenda := rest } v
    rw [hoff]
    exact hovr hb

end Sys2Proof.Machine
end

section
/-! Proofs. O1: block reset gives every register the value of State.reset and keeps the trace, with ABORT on an owned bus. -/

namespace Sys2Proof.Machine

/-! ## The registers at their reset values (70_reset_and_hazards.md R310) -/

theorem reset_ctl_toWord : State.reset.ctl.toWord = 0x0101#16 := by decide

theorem reset_i2cstat : State.reset.i2cstat = 0#16 := by decide

theorem reset_ifg_toWord : State.reset.ifg.toWord = 0#16 := by decide

theorem reset_status_toWord : State.reset.status.toWord = 0#16 := by decide

theorem reset_cal_getD (k : Nat) : State.reset.cal.toList.getD k 0x0000#16 = 0#16 := by
  simp [State.reset]

theorem rxd_reset (k : Nat) : rxd State.reset.rxdata k = 0#16 := by
  simp [rxd, State.reset]

/-- Every offset but that of I2CCTL reads 0 after reset: the register there is 0, or the offset is reserved (20_memory.md R84, R85). -/
theorem readReg_reset {off : BitVec 7} (h : off ≠ offI2cctl) : readReg off State.reset = 0#16 := by
  have hctl : off.toNat ≠ 0x00 := fun h0 => h (BitVec.eq_of_toNat_eq h0)
  simp only [readReg, if_neg hctl, reset_i2cstat, reset_ifg_toWord, reset_status_toWord, reset_cal_getD, rxd_reset]
  simp [State.reset, lo, hi]

/-! ## Block reset -/

/-- ABORT is logged exactly in the phases TX, RX and HOLD (70_reset_and_hazards.md R311). -/
theorem trace_abortIfOwned (s : State) : (abortIfOwned s).trace =
    if s.phase = .tx ∨ s.phase = .rx ∨ s.phase = .hold then s.trace ++ [.abort] else s.trace := by
  simp only [abortIfOwned_eq, Phase.owns_iff]

/-- Settles O1: block reset is the state after reset with its own trace. -/
theorem blockResetSetsEveryRegister : Obligations.BlockResetSetsEveryRegister := by
  refine ⟨fun s rest hs => ?_, reset_ctl_toWord, rfl, rfl, rfl, rfl, fun _ _ h => readReg_reset h⟩
  refine ⟨blockReset { s with agenda := rest }, step_move hs, reset_ctl_toWord, rfl, reset_i2cstat, rfl, rfl, rfl,
    reset_ifg_toWord, rfl, rfl, rfl, rfl, reset_status_toWord, rfl, rfl, rfl, rfl, rfl, rfl, rfl, rfl, ?_⟩
  exact trace_abortIfOwned { s with agenda := rest }

end Sys2Proof.Machine
end

section
/-! Proofs. O8, O9 and O10: the decoder undoes the encoder row by row, and an illegal command word ends its command at once. -/

namespace Sys2Proof.Machine

/-! ## The fields of an I2CCTL word -/

/-- The eight fields of an I2CCTL word stand where the decoder looks for them (10_state.md R30). -/
theorem decodeCtlWrite_encodeCtlWrite (w : CtlWrite) : decodeCtlWrite (encodeCtlWrite w) = w := by
  obtain ⟨swrst, txstt, txstp, tr, ssel, sync, mode, mst⟩ := w
  revert swrst txstt txstp tr ssel sync mode mst
  decide

/-- A write of I2CCTL is the row its fields select (30_encoding.md R119). -/
theorem decode_ctlCarrier (swrst : Bool) (w : CtlWrite) : decode swrst (ctlCarrier w) = .ok (decodeCtl swrst w) := by
  have h : decode swrst (ctlCarrier w) = .ok (decodeCtl swrst (decodeCtlWrite (encodeCtlWrite w))) := rfl
  rw [h, decodeCtlWrite_encodeCtlWrite]

/-! ## Command words and sensor command bytes -/

theorem decode_commandCarrier {op : BitVec 4} {oss : BitVec 2} {i : Instr} (h : decodeCommand (commandWord op oss) = some i)
    (swrst : Bool) : decode swrst (commandCarrier op oss) = .ok i :=
  decode_cmd_of_some h swrst

/-- The eight operations of format F-CMD, each with every OSS (30_encoding.md R113). -/
theorem decodeCommand_commandWord (oss : BitVec 2) :
    decodeCommand (commandWord 0x1#4 oss) = some (.init oss) ∧ decodeCommand (commandWord 0x2#4 oss) = some (.writeReg oss) ∧
    decodeCommand (commandWord 0x3#4 oss) = some (.readBytes oss) ∧ decodeCommand (commandWord 0x4#4 oss) = some (.readCal oss) ∧
    decodeCommand (commandWord 0x5#4 oss) = some (.measureT oss) ∧ decodeCommand (commandWord 0x6#4 oss) = some (.measureP oss) ∧
    decodeCommand (commandWord 0x7#4 oss) = some (.calcT oss) ∧ decodeCommand (commandWord 0x8#4 oss) = some (.calcP oss) := by
  revert oss
  decide

theorem decodeControl_pressControlByte (oss : BitVec 2) : decodeControl (pressControlByte oss) = some (.ctrlPress oss) := by
  revert oss
  decide

/-- The address byte keeps the address above its direction bit (30_encoding.md R118). -/
theorem decodeAddress_addressByte (a : BitVec 7) (rw : Bool) :
    decodeAddress (addressByte a rw) = if rw then .addrRead a else .addrWrite a := by
  revert a rw
  decide

/-- A field written into the low bits of a word is read back from there. -/
theorem extractLsb'_setWidth_word {n : Nat} (hn : n ≤ 16) (x : BitVec n) : (x.setWidth 16).extractLsb' 0 n = x := by
  apply BitVec.eq_of_toNat_eq
  have hlt : x.toNat < 2 ^ 16 := Nat.lt_of_lt_of_le x.isLt (Nat.pow_le_pow_right (by decide) hn)
  rw [BitVec.extractLsb'_toNat, BitVec.toNat_setWidth, Nat.shiftRight_zero, Nat.mod_eq_of_lt hlt, Nat.mod_eq_of_lt x.isLt]

/-- Settles O8, row by row: each format's fields are read back from the place where the encoder put them. -/
theorem decodeOfEncode : Obligations.DecodeOfEncode := by
  intro swrst i hwf hsel
  cases i <;> simp only [Instr.wf, Instr.selected, Bool.and_eq_true, Bool.not_eq_true', beq_iff_eq] at hwf hsel <;> rw [encode]
  case init oss | writeReg oss | readBytes oss | readCal oss | measureT oss | measureP oss | calcT oss | calcP oss =>
    obtain ⟨hInit, hWriteReg, hReadBytes, hReadCal, hMeasureT, hMeasureP, hCalcT, hCalcP⟩ := decodeCommand_commandWord oss
    apply decode_commandCarrier
    assumption
  case ctrlTemp => rfl
  case ctrlPress oss => simp only [decode, decodeControl_pressControlByte]
  case addrWrite a => exact congrArg Except.ok (decodeAddress_addressByte a false)
  case addrRead a => exact congrArg Except.ok (decodeAddress_addressByte a true)
  case ctlConfig w | ctlEnterReset w | ctlLeaveReset w | ctlStart w | ctlStop w =>
    simp [decode_ctlCarrier, decodeCtl, hwf, hsel]
  case txByte b => exact congrArg (fun x => Except.ok (Instr.txByte x)) (extractLsb'_setWidth_word (by decide) b)
  case rxByte => rfl
  case ifgWrite r t n => cases r <;> cases t <;> cases n <;> rfl
  case saWrite a => exact congrArg (fun x => Except.ok (Instr.saWrite x)) (extractLsb'_setWidth_word (by decide) a)
  case brwWrite div => rfl

/-- A word with a reserved field set or a reserved operation decodes to no command (30_encoding.md R114). -/
theorem decodeCommand_eq_none {w : Word}
    (h : w.extractLsb' 6 10 ≠ 0#10 ∨ (w.extractLsb' 0 4).toNat = 0 ∨ 9 ≤ (w.extractLsb' 0 4).toNat) : decodeCommand w = none := by
  unfold decodeCommand
  split
  case isFalse => rfl
  case isTrue hrsv =>
    dsimp only
    split
    case h_9 => rfl
    all_goals simp only [*, ne_eq, not_true_eq_false, false_or] at h; omega

/-- An illegal command word written while no command runs ends at once with ILLEGAL_CMD (60_exceptions.md R281). -/
theorem hostAccess_illegalCommand {w : Word} (h : decodeCommand w = none) {s : State} (hb : s.status.busy = false) :
    hostAccess (.write 2 offCmd w) s = .next (endedAtOnce w .illegalCmd s) := by
  rw [hostAccess, decode_cmd_of_none h]
  exact congrArg Host.Outcome.next (issueIllegal_idle hb w)

/-- Settles O9: the illegal words by the two ways to be illegal, the legal ones by their operation. -/
theorem commandWordDecodes : Obligations.CommandWordDecodes := by
  intro w op oss
  refine ⟨fun h => ⟨decodeCommand_eq_none h, fun s hb => hostAccess_illegalCommand (decodeCommand_eq_none h) hb⟩, fun hrsv => ?_⟩
  obtain ⟨hInit, hWriteReg, hReadBytes, hReadCal, hMeasureT, hMeasureP, hCalcT, hCalcP⟩ := decodeCommand_commandWord oss
  refine ⟨?_, ?_, ?_, ?_, ?_, ?_, ?_, ?_⟩ <;> intro hop <;> rw [← commandWord_of_fields hrsv hop] <;> assumption

/-- Settles O10: each word is a closed term that the decoder evaluates. -/
theorem specWordsDecode : Obligations.SpecWordsDecode := by
  refine ⟨?_, ?_, ?_, ?_, ?_, ?_, ?_, ?_⟩ <;> decide

end Sys2Proof.Machine
end

section
/-! Proofs. O11 and O16 to O20: what a host access of the window does, and what each register reads. -/

namespace Sys2Proof.Machine

/-- A host access at the head of the agenda is the whole step (20_memory.md R90). -/
theorem step_access {s : State} {a : Access} {rest : List Move} (h : s.agenda = .access a :: rest) :
    step s = hostAccess a { s with agenda := rest } :=
  step_move h

/-- Settles O11: the step takes the access off the agenda and runs its row. -/
theorem hostAccessRunsDecodedInstruction : Obligations.HostAccessRunsDecodedInstruction := fun _ _ _ _ hs hd =>
  (step_access hs).trans (hostAccess_of_decode hd)

/-! ## Accesses without a row -/

/-- The offsets whose writes have no row of the opcode table (30_encoding.md R119). -/
theorem decodeAccess_write_plain {off : BitVec 7} (h : off.toNat ∉ [0x00, 0x02, 0x08, 0x0A, 0x0C, 0x10]) (swrst : Bool) (n : Nat)
    (v : Word) : decodeAccess swrst (.write n off v) = .error .plainAccess := by
  have hne : ∀ k, k ∈ [0x00#7, 0x02#7, 0x08#7, 0x0A#7, 0x0C#7, 0x10#7] → off ≠ k := by
    rintro k hk rfl
    revert off
    decide
  simp [decodeAccess, hne]

theorem hostAccess_write_plain {off : BitVec 7} (heven : off.toNat % 2 = 0)
    (h : off.toNat ∉ [0x00, 0x02, 0x08, 0x0A, 0x0C, 0x10]) (v : Word) {s : State} (hb : s.status.busy = false) :
    hostAccess (.write 2 off v) s = .next (storeData off v s) := by
  simp [hostAccess, decode, Access.shapeOk, heven, decodeAccess_write_plain h, plainAccess, hostWrite_idle hb]

/-- Read-only registers and reserved offsets ignore writes (20_memory.md R85). -/
theorem storeData_ignored {off : BitVec 7} (h : off.toNat ∉ [0x0E, 0x14, 0x16, 0x18]) (v : Word) (s : State) :
    storeData off v s = s := by
  simp only [List.mem_cons, List.not_mem_nil, or_false, not_or] at h
  simp [storeData, h]

/-- A read of any register but I2CRXBUF returns it (20_memory.md R87). -/
theorem hostAccess_read {off : BitVec 7} (heven : off.toNat % 2 = 0) (h : off ≠ offI2crxbuf) (s : State) :
    hostAccess (.read 2 off) s = .next (noteRead (readReg off s) s) := by
  simp [hostAccess, decode, Access.shapeOk, heven, decodeAccess, h, plainAccess]

/-! ## The halves of a 32-bit register (20_memory.md R82) -/

theorem hi_append_lo (v : Long) : hi v ++ lo v = v := by
  rw [hi, lo, BitVec.extractLsb'_append_extractLsb'_eq_extractLsb' (by rfl)]
  exact BitVec.extractLsb'_eq_self

theorem lo_append (h l : Word) : lo (h ++ l) = l := BitVec.extractLsb'_append_eq_right

theorem hi_append (h l : Word) : hi (h ++ l) = h := BitVec.extractLsb'_append_eq_left

/-- Settles O16: each of the four offsets has no row and stores its word, in one half only for UP. -/
theorem dataRegisterWrites : Obligations.DataRegisterWrites := by
  intro s rest off v hb hs
  rw [step_access hs]
  have hplain := fun heven h => hostAccess_write_plain (off := off) heven h v (s := { s with agenda := rest }) hb
  refine ⟨?_, ?_, ?_, ?_⟩ <;> rintro rfl
  · exact hplain (by decide) (by decide)
  · exact hplain (by decide) (by decide)
  · exact ⟨_, hplain (by decide) (by decide), rfl, lo_append _ v, hi_append _ v⟩
  · exact ⟨_, hplain (by decide) (by decide), rfl, hi_append v _, lo_append v _⟩

/-! ## What a read returns -/

/-- Reserved offsets read 0 (20_memory.md R85). -/
theorem readReg_reserved {off : BitVec 7} (h : off = 0x26#7 ∨ off = 0x3E#7 ∨ (0x60 ≤ off.toNat ∧ off.toNat % 2 = 0)) (s : State) :
    readReg off s = 0x0000#16 := by
  obtain rfl | rfl | ⟨hle, -⟩ := h
  · rfl
  · rfl
  · have hne : ∀ k < 0x60, off.toNat ≠ k := fun k hk => by omega
    have hcal : ¬ off.toNat ≤ 0x3C := by omega
    have hrxd : ¬ off.toNat ≤ 0x5E := by omega
    simp [readReg, hne, hcal, hrxd]

/-- Settles O17: a reserved offset reads 0, and a write that reaches no register stores nothing. -/
theorem reservedAndReadOnlyOffsets : Obligations.ReservedAndReadOnlyOffsets := by
  refine ⟨fun s rest off hoff hs => ?_, fun s rest off v heven hoff hs => ?_⟩
  · have heven : off.toNat % 2 = 0 := by
      obtain rfl | rfl | ⟨-, h⟩ := hoff
      · rfl
      · rfl
      · exact h
    have hne : off ≠ offI2crxbuf := by
      rintro rfl
      revert hoff
      decide
    rw [step_access hs, hostAccess_read heven hne, readReg_reserved hoff]
    rfl
  · cases hb : s.status.busy with
    | true =>
      obtain ⟨hlock, -⟩ := busyLockIgnoresHostWrites s rest off v hb heven hs
      exact hlock (by rintro rfl; exact hoff (by decide))
    | false =>
      simp only [List.mem_cons, List.not_mem_nil, or_false, not_or] at hoff
      have hplain := hostAccess_write_plain heven (by simp [hoff]) v (s := { s with agenda := rest }) hb
      rw [step_access hs, hplain, storeData_ignored (by simp [hoff])]

/-- Settles O18: a read without a row only notes its value. -/
theorem readsHaveNoSideEffect : Obligations.ReadsHaveNoSideEffect := fun _ _ _ heven hne hs =>
  (step_access hs).trans (hostAccess_read heven hne _)

/-! ## The bits of the control and status registers -/

/-- I2CCTL as a register is the word whose write has its fields (10_state.md R30). -/
theorem Ctl.decodeCtlWrite_toWord (c : Ctl) :
    decodeCtlWrite c.toWord = ⟨c.swrst, c.txstt, c.txstp, c.tr, c.ssel, c.sync, c.mode, c.mst⟩ :=
  decodeCtlWrite_encodeCtlWrite ⟨c.swrst, c.txstt, c.txstp, c.tr, c.ssel, c.sync, c.mode, c.mst⟩

/-- The reserved and hardwired bits of I2CCTL read 0 (10_state.md R36). -/
theorem Ctl.toWord_reserved (c : Ctl) : c.toWord &&& 0xF028#16 = 0#16 := by
  obtain ⟨swrst, txstt, txstp, tr, ssel, sync, mode, mst⟩ := c
  revert swrst txstt txstp tr ssel sync mode mst
  decide

theorem State.i2cstat_bits (s : State) :
    (s.i2cstat.getLsbD 4 = true ↔ s.phase = .tx ∨ s.phase = .rx ∨ s.phase = .hold) ∧ s.i2cstat &&& 0xFFEF#16 = 0#16 := by
  rw [← Phase.owns_iff, State.i2cstat]
  cases s.phase.owns <;> decide

theorem Ifg.toWord_bits (f : Ifg) :
    f.toWord.getLsbD 0 = f.rxifg ∧ f.toWord.getLsbD 1 = f.txifg ∧ f.toWord.getLsbD 5 = f.nackifg ∧ f.toWord &&& 0xFFDC#16 = 0#16 := by
  obtain ⟨rxifg, txifg, nackifg⟩ := f
  revert rxifg txifg nackifg
  decide

theorem Status.toWord_bits (t : Status) :
    t.toWord.getLsbD 0 = t.busy ∧ t.toWord.getLsbD 1 = t.done ∧ t.toWord.getLsbD 2 = t.calv ∧ t.toWord.getLsbD 3 = t.ovr ∧
    (t.toWord.extractLsb' 8 3).toNat = errNumber t.err ∧ t.toWord &&& 0xF8F0#16 = 0#16 := by
  obtain ⟨busy, done, calv, ovr, err⟩ := t
  cases err <;> revert busy done calv ovr <;> decide

/-- Settles O19, register by register. -/
theorem controlAndStatusBits : Obligations.ControlAndStatusBits := by
  intro s
  refine ⟨?_, s.i2cstat_bits, s.ifg.toWord_bits, s.status.toWord_bits⟩
  have hfields := s.ctl.decodeCtlWrite_toWord
  simp only [decodeCtlWrite, CtlWrite.mk.injEq] at hfields
  obtain ⟨hswrst, hstt, hstp, htr, hssel, hsync, hmode, hmst⟩ := hfields
  exact ⟨hswrst, hstt, hstp, htr, hssel, hsync, hmode, hmst, s.ctl.toWord_reserved⟩

/-! ## The registers stored whole -/

/-- CAL[i] is read at 0x28 + 2i (20_memory.md R84). -/
theorem readReg_cal (s : State) (i : Fin 11) : readReg (BitVec.ofNat 7 (0x28 + 2 * i.val)) s = s.cal.get i := by
  have hoff : (BitVec.ofNat 7 (0x28 + 2 * i.val)).toNat = 0x28 + 2 * i.val := by simp; omega
  have hlow : ∀ k < 0x28, 0x28 + 2 * i.val ≠ k := fun k hk => by omega
  have hrange : 0x28 + 2 * i.val ≤ 0x3C := by omega
  simp only [readReg, hoff]
  simp [hlow, hrange, Vector.get_eq_getElem]

/-- RXDk is read at 0x40 + 2k (20_memory.md R84). -/
theorem readReg_rxd (s : State) {k : Nat} (hk : k < 16) : readReg (BitVec.ofNat 7 (0x40 + 2 * k)) s = rxd s.rxdata k := by
  have hoff : (BitVec.ofNat 7 (0x40 + 2 * k)).toNat = 0x40 + 2 * k := by simp; omega
  have hlow : ∀ j < 0x40, 0x40 + 2 * k ≠ j := fun j hj => by omega
  have hcal : ¬ 0x40 + 2 * k ≤ 0x3C := by omega
  have hrange : 0x40 + 2 * k ≤ 0x5E := by omega
  simp only [readReg, hoff]
  simp [hlow, hcal, hrange]

theorem rxd_eq (v : Vector Byte Config.rxdataSize) (k : Fin 16) :
    rxd v k.val = v.get ⟨2 * k.val + 1, by simp only [Config.rxdataSize]; omega⟩
      ++ v.get ⟨2 * k.val, by simp only [Config.rxdataSize]; omega⟩ := by
  have h : 2 * k.val + 1 < 32 := by omega
  have h' : 2 * k.val < 32 := by omega
  simp [rxd, Vector.get_eq_getElem, h, h']

/-- Settles O20: the halves of a 32-bit register join to it, and every other register is read at its offset. -/
theorem dataRegistersReadBack : Obligations.DataRegistersReadBack := by
  intro s
  refine ⟨hi_append_lo _, hi_append_lo _, hi_append_lo _, hi_append_lo _, rfl,
    BitVec.setWidth_eq_append (x := s.i2crxbuf) (by decide), BitVec.setWidth_eq_append (x := s.i2ctxbuf) (by decide),
    BitVec.setWidth_eq_append (x := s.i2csa) (by decide), rfl, rfl, rfl, readReg_cal s,
    fun k => (readReg_rxd s k.isLt).trans (rxd_eq _ k)⟩

end Sys2Proof.Machine
end

section
/-! Proofs. O21, O22, O24, O25, O26 and O28: a write of I2CCTL is its configuration and reset transition, then the START request, then
the STOP request; and a read of I2CRXBUF takes the byte. -/

namespace Sys2Proof.Machine

/-- The five rows of I2CCTL carry out the whole write (10_state.md R37). -/
theorem exec_ctl_idle {i : Instr} {w : CtlWrite} {s : State} (hb : s.status.busy = false)
    (hi : i ∈ [Instr.ctlConfig w, .ctlEnterReset w, .ctlLeaveReset w, .ctlStart w, .ctlStop w]) :
    exec i s = .next (writeCtl w s) := by
  simp only [List.mem_cons, List.not_mem_nil, or_false] at hi
  obtain rfl | rfl | rfl | rfl | rfl := hi <;> exact congrArg Host.Outcome.next (hostWrite_idle hb _)

/-! ## A write with requests -/

/-- The write of I2CCTL that requests nothing. -/
def withoutRequests (w : CtlWrite) : CtlWrite := { w with txstt := false, txstp := false }

/-- The requests of a write come after its configuration and reset transition (10_state.md R37). -/
theorem writeCtl_eq_requests (w : CtlWrite) (s : State) : writeCtl w s =
    let s1 := writeCtl (withoutRequests w) s
    let s2 := if w.txstt then requestStart s1 else s1
    if w.txstp then requestStop s2 else s2 := by
  have h : writeCtl (withoutRequests w) s = resetTransition s.ctl.swrst w.swrst (writeConfig w s) := writeCtl_of_no_request rfl rfl s
  rw [h]
  rfl

/-- A START request adds TXSTT to what the write has done, unless SWRST is written (41_bus_controller.md R144). -/
theorem requestStart_controlWritten (w : CtlWrite) (s : State) :
    requestStart (controlWritten w s) = controlWritten { w with txstt := true } s := by
  cases hw : w.swrst <;> simp [requestStart, controlWritten, configured', State.setTxstt, hw]

/-- A STOP request adds TXSTP and STOP_REQ on an owned bus, unless SWRST is written (41_bus_controller.md R145). -/
theorem requestStop_controlWritten {w : CtlWrite} {s : State} (hs : ResetHeld s) (hi : NoStopWhenIdle s) (hw : w.txstp = false) :
    requestStop (controlWritten w s) = controlWritten { w with txstp := true } s := by
  obtain ⟨hoff, hclear⟩ := hs
  cases hn : w.swrst with
  | true => simp [requestStop, controlWritten, configured', hn]
  | false =>
    cases hr : s.ctl.swrst with
    | true =>
      obtain ⟨-, htp, -, -⟩ := hclear hr
      simp [requestStop, controlWritten, configured', State.setTxstp, Phase.owns, hn, hr, hw, htp, hoff.mp hr]
    | false =>
      have hne : s.phase ≠ .off := by simpa [hr] using hoff
      cases hp : s.phase
      case off => exact absurd hp hne
      case idle => simp [requestStop, controlWritten, configured', State.setTxstp, Phase.owns, hn, hr, hw, hp, hi hp]
      all_goals
        cases htp : s.ctl.txstp <;>
          simp [requestStop, controlWritten, configured', State.setTxstp, State.log, Phase.owns, hn, hr, hw, hp, htp]

/-- `controlWritten` is what every write of I2CCTL does. -/
theorem writeCtl_eq {s : State} (hs : ResetHeld s) (hi : NoStopWhenIdle s) (w : CtlWrite) : writeCtl w s = controlWritten w s := by
  have hconfig : writeCtl (withoutRequests w) s = controlWritten (withoutRequests w) s := writeCtl_eq_controlWritten hs rfl rfl
  rw [writeCtl_eq_requests, hconfig]
  obtain ⟨swrst, txstt, txstp, tr, ssel, sync, mode, mst⟩ := w
  cases txstt <;> cases txstp <;>
    simp [withoutRequests, requestStart_controlWritten, requestStop_controlWritten hs hi]

/-- Settles O21, by what one write of I2CCTL does in one form. -/
theorem controlWriteInOneForm : Obligations.ControlWriteInOneForm := by
  intro s hs hi hb
  refine ⟨fun w i hrow => ?_, fun v => ?_⟩
  · rw [exec_ctl_idle hb hrow, writeCtl_eq hs hi]
  · have hdecode : hostAccess (.write 2 0x00#7 v) s = exec (decodeCtl s.ctl.swrst (decodeCtlWrite v)) s := hostAccess_of_decode rfl
    rw [hdecode, exec_decodeCtl, hostWrite_idle hb, writeCtl_eq hs hi]
    rfl

/-! ## One request or none, from every state -/

/-- Settles O22: with SWRST kept and no request, the configuration is all that is written. -/
theorem configWriteSetsFieldsOnly : Obligations.ConfigWriteSetsFieldsOnly := by
  intro w s hb hw hstt hstp
  rw [exec_ctl_idle (w := w) hb (by simp), writeCtl_of_no_request hstt hstp, hw, resetTransition_same, writeConfig_of_same_swrst hw]

/-- A write that leaves reset or stays out of it, with no request (41_bus_controller.md R143). -/
theorem resetTransition_awake {w : CtlWrite} (hw : w.swrst = false) (s : State) :
    resetTransition s.ctl.swrst w.swrst (writeConfig w s) =
      { s with
        ctl := { configured' w s.ctl with swrst := false }
        phase := if s.ctl.swrst then .idle else s.phase } := by
  cases hr : s.ctl.swrst <;> simp [resetTransition, leaveReset, State.setPhase, writeConfig, configured', hw]

/-- Settles O24: the transition out of reset sets the phase and nothing else. -/
theorem leaveResetGivesIdle : Obligations.LeaveResetGivesIdle := by
  intro w s hb hr hw hstt hstp
  rw [exec_ctl_idle (w := w) hb (by simp), writeCtl_of_no_request hstt hstp, resetTransition_awake hw]
  simp [hr]

theorem writeCtl_of_start {w : CtlWrite} (hstt : w.txstt = true) (hstp : w.txstp = false) (s : State) :
    writeCtl w s = requestStart (resetTransition s.ctl.swrst w.swrst (writeConfig w s)) := by
  simp [writeCtl, hstt, hstp]

theorem writeCtl_of_stop {w : CtlWrite} (hstt : w.txstt = false) (hstp : w.txstp = true) (s : State) :
    writeCtl w s = requestStop (resetTransition s.ctl.swrst w.swrst (writeConfig w s)) := by
  simp [writeCtl, hstt, hstp]

theorem requestStart_awake {s : State} (h : s.ctl.swrst = false) : requestStart s = { s with ctl := { s.ctl with txstt := true } } := by
  simp [requestStart, h, State.setTxstt]

theorem requestStart_held {s : State} (h : s.ctl.swrst = true) : requestStart s = s := by
  simp [requestStart, h]

/-- Settles O25, by the SWRST written and the SWRST before. -/
theorem startRequestSetsTxstt : Obligations.StartRequestSetsTxstt := by
  intro w s hb hstt hstp
  rw [exec_ctl_idle (w := w) hb (by simp), writeCtl_of_start hstt hstp]
  refine ⟨fun hw => ?_, fun hw hr => ?_, fun hw hr => ⟨_, rfl, ?_⟩⟩
  · rw [resetTransition_awake hw, requestStart_awake rfl]
  · have hsame : w.swrst = s.ctl.swrst := hw.trans hr.symm
    rw [hsame, resetTransition_same, writeConfig_of_same_swrst hsame,
      requestStart_held (s := { s with ctl := configured' w s.ctl }) hr]
  · have henter : resetTransition s.ctl.swrst w.swrst (writeConfig w s) = enterReset (writeConfig w s) := by rw [hr, hw]; rfl
    have hheld : (enterReset (writeConfig w s)).ctl.swrst = true := by simpa [enterReset, abortIfOwned_eq] using hw
    rw [henter, requestStart_held hheld]
    rfl

/-- Settles O26, by the branches of a STOP request. -/
theorem stopRequestSetsTxstp : Obligations.StopRequestSetsTxstp := by
  intro w s hb hstp hstt hw
  rw [exec_ctl_idle (w := w) hb (by simp), writeCtl_of_stop hstt hstp, hw, resetTransition_same, writeConfig_of_same_swrst hw]
  refine ⟨fun hr => ?_, fun hr hp => ?_, fun hr hp htp => ?_, fun hr hp htp => ?_⟩ <;>
    simp [requestStop, configured', State.setTxstp, State.log, *]

/-! ## Taking the received byte -/

/-- Settles O28: the host's read of I2CRXBUF takes the byte only while no command runs, the engine's always. -/
theorem takeByteClearsRxifg : Obligations.TakeByteClearsRxifg := by
  refine ⟨fun s => ⟨fun hb => ?_, fun hb => ?_⟩, fun s => ⟨_, rfl, rfl, ?_⟩⟩
  · simp [exec, execRxByte, hb, readRxbuf, noteRead, State.setRxifg, readReg]
  · simp [exec, execRxByte, hb, readRxbuf, noteRead, readReg]
  · cases he : s.eng <;> simp [localBytes, readRxbuf, he]

end Sys2Proof.Machine
end

section
/-! Proofs. O12 and O31 to O37: when each bus step is enabled, what it does in one form, and that the byte rows are the bus steps which
send their bytes. -/

namespace Sys2Proof.Machine

/-! ## When a bus step is enabled (41_bus_controller.md R151 to R155) -/

theorem startEnabled_iff (s : State) : startEnabled s = true ↔ s.ctl.txstt = true ∧ s.configured = true ∧ s.ctl.txstp = false ∧
    (s.phase = .idle ∨ s.phase = .hold ∨ (s.phase = .tx ∧ s.txpending = false)) := by
  simp [startEnabled, and_assoc, or_assoc]

theorem txEnabled_iff (s : State) : txEnabled s = true ↔ s.phase = .tx ∧ s.txpending = true := by simp [txEnabled]

theorem rxEnabled_iff (s : State) : rxEnabled s = true ↔ s.phase = .rx ∧ s.ifg.rxifg = false := by simp [rxEnabled]

theorem stopEnabled_iff (s : State) : stopEnabled s = true ↔ s.ctl.txstp = true ∧
    (s.phase = .hold ∨ (s.phase = .tx ∧ s.txpending = false)) := by simp [stopEnabled]

theorem startEnabled_exclusive {s : State} (h : startEnabled s = true) :
    txEnabled s = false ∧ rxEnabled s = false ∧ stopEnabled s = false := by
  obtain ⟨-, -, htp, hp | hp | ⟨hp, hq⟩⟩ := (startEnabled_iff s).mp h <;> simp [txEnabled, rxEnabled, stopEnabled, *]

theorem txEnabled_exclusive {s : State} (h : txEnabled s = true) :
    startEnabled s = false ∧ rxEnabled s = false ∧ stopEnabled s = false := by
  obtain ⟨hp, hq⟩ := (txEnabled_iff s).mp h
  simp [startEnabled, rxEnabled, stopEnabled, hp, hq]

theorem rxEnabled_exclusive {s : State} (h : rxEnabled s = true) :
    startEnabled s = false ∧ txEnabled s = false ∧ stopEnabled s = false := by
  obtain ⟨hp, -⟩ := (rxEnabled_iff s).mp h
  simp [startEnabled, txEnabled, stopEnabled, hp]

theorem stopEnabled_exclusive {s : State} (h : stopEnabled s = true) :
    startEnabled s = false ∧ txEnabled s = false ∧ rxEnabled s = false := by
  obtain ⟨htp, hp | ⟨hp, hq⟩⟩ := (stopEnabled_iff s).mp h <;> simp [startEnabled, txEnabled, rxEnabled, *]

theorem busEnabled_off {s : State} (h : s.phase = .off) : busEnabled s = false := by
  simp [busEnabled, startEnabled, txEnabled, rxEnabled, stopEnabled, h]

/-- Settles O37, by the phase and the queue each bus step asks for. -/
theorem atMostOneBusStepEnabled : Obligations.AtMostOneBusStepEnabled := fun _ =>
  ⟨startEnabled_exclusive, fun h => (txEnabled_exclusive h).2, fun h => (rxEnabled_exclusive h).2.2, busEnabled_off⟩

/-! ## What a bus step does -/

theorem drawAck_snd (s : State) : (drawAck s).2 = { s with peer := (drawAck s).2.peer } := by
  unfold drawAck
  split <;> rfl

theorem drawByte_snd (s : State) : (drawByte s).2 = { s with peer := (drawByte s).2.peer } := by
  unfold drawByte
  split <;> rfl

/-- What the peer answers is a matter of its own answers to come. -/
theorem drawAck_congr {s t : State} (h : t.peer = s.peer) :
    (drawAck t).1 = (drawAck s).1 ∧ (drawAck t).2.peer = (drawAck s).2.peer := by
  unfold drawAck
  rw [h]
  cases s.peer.acks <;> exact ⟨rfl, rfl⟩

theorem drawByte_congr {s t : State} (h : t.peer = s.peer) :
    (drawByte t).1 = (drawByte s).1 ∧ (drawByte t).2.peer = (drawByte s).2.peer := by
  unfold drawByte
  rw [h]
  cases s.peer.bytes <;> exact ⟨rfl, rfl⟩

theorem startWith_eq (ack : Bool) (s : State) : startWith ack s =
    { s with
      trace := s.trace ++ [if s.phase = .idle then .start else .restart, .addr s.i2csa (!s.ctl.tr) ack]
      ctl := { s.ctl with txstt := false }
      phase := if ack then (if s.ctl.tr then .tx else .rx) else .hold
      ifg := { s.ifg with txifg := ack && s.ctl.tr && !s.txpending, nackifg := s.ifg.nackifg || !ack } } := by
  cases ack <;> cases htr : s.ctl.tr <;>
    simp [startWith, State.log, State.setTxstt, State.setPhase, State.setTxifg, State.setNackifg, htr]

theorem pStart_eq (s : State) : pStart s =
    { s with
      peer := (drawAck s).2.peer
      trace := s.trace ++ [if s.phase = .idle then .start else .restart, .addr s.i2csa (!s.ctl.tr) (drawAck s).1]
      ctl := { s.ctl with txstt := false }
      phase := if (drawAck s).1 then (if s.ctl.tr then .tx else .rx) else .hold
      ifg := { s.ifg with
        txifg := (drawAck s).1 && s.ctl.tr && !s.txpending, nackifg := s.ifg.nackifg || !(drawAck s).1 } } := by
  rw [pStart, drawAck_snd, startWith_eq]

theorem txWith_eq (ack : Bool) (s : State) : txWith ack s =
    { s with
      trace := s.trace ++ [.tx s.i2ctxbuf ack]
      txpending := false
      phase := if ack then s.phase else .hold
      ifg := { s.ifg with txifg := ack || s.ifg.txifg, nackifg := s.ifg.nackifg || !ack } } := by
  cases ack <;> simp [txWith, State.log, State.setPhase, State.setTxifg, State.setNackifg]

theorem pTx_eq (s : State) : pTx s =
    { s with
      peer := (drawAck s).2.peer
      trace := s.trace ++ [.tx s.i2ctxbuf (drawAck s).1]
      txpending := false
      phase := if (drawAck s).1 then s.phase else .hold
      ifg := { s.ifg with txifg := (drawAck s).1 || s.ifg.txifg, nackifg := s.ifg.nackifg || !(drawAck s).1 } } := by
  rw [pTx, drawAck_snd, txWith_eq]

theorem rxWith_eq (b : Byte) (s : State) : rxWith b s =
    { s with
      i2crxbuf := b
      ifg := { s.ifg with rxifg := true }
      trace := s.trace ++ [.rx b (!s.ctl.txstp && !s.ctl.txstt)] ++ (if s.ctl.txstp then [.stop] else [])
      ctl := { s.ctl with txstp := false }
      phase := if s.ctl.txstp then .idle else if s.ctl.txstt then .hold else s.phase } := by
  obtain ⟨⟨swrst, txstt, txstp, tr, ssel, sync, mode, mst⟩⟩ := s
  cases txstp <;> cases txstt <;> simp [rxWith, State.log, State.setPhase, State.setRxifg, State.setTxstp]

theorem pRx_eq (s : State) : pRx s =
    { s with
      peer := (drawByte s).2.peer
      i2crxbuf := (drawByte s).1
      ifg := { s.ifg with rxifg := true }
      trace := s.trace ++ [.rx (drawByte s).1 (!s.ctl.txstp && !s.ctl.txstt)] ++ (if s.ctl.txstp then [.stop] else [])
      ctl := { s.ctl with txstp := false }
      phase := if s.ctl.txstp then .idle else if s.ctl.txstt then .hold else s.phase } := by
  rw [pRx, drawByte_snd, rxWith_eq]

/-! ## The bytes of the rows of F-ADDR and F-CTRL -/

theorem addressByte_inj {a b : BitVec 7} {r q : Bool} : addressByte a r = addressByte b q ↔ a = b ∧ r = q := by
  refine ⟨fun h => ?_, by rintro ⟨rfl, rfl⟩; rfl⟩
  have hd := congrArg decodeAddress h
  rw [decodeAddress_addressByte, decodeAddress_addressByte] at hd
  revert hd
  cases r <;> cases q <;> simp

/-- The pressure byte as a number (30_encoding.md R116). -/
theorem pressControlByte_eq (oss : BitVec 2) : pressControlByte oss = BitVec.ofNat 8 (0x34 + 64 * oss.toNat) := by
  revert oss
  decide

/-- An address byte is its address above its direction bit. -/
theorem exec_decodeAddress (b : Byte) (s : State) : exec (decodeAddress b) s = .next (sendAddress b s) := by
  have h : addressByte (b.extractLsb' 1 7) (b.getLsbD 0) = b := by revert b; decide
  unfold decodeAddress
  split
  case isTrue hb =>
    rw [hb] at h
    exact congrArg (fun x => Host.Outcome.next (sendAddress x s)) h
  case isFalse hb =>
    rw [Bool.not_eq_true] at hb
    rw [hb] at h
    exact congrArg (fun x => Host.Outcome.next (sendAddress x s)) h

/-- The row of a sensor command byte sends that byte (30_encoding.md R116). -/
theorem exec_decodeControl {b : Byte} {i : Instr} (h : decodeControl b = some i) (s : State) : exec i s = .next (sendData b s) := by
  unfold decodeControl at h
  split at h
  case isTrue hb =>
    cases h
    rw [hb]
    rfl
  case isFalse =>
    split at h <;> cases h
    have hb : pressControlByte (b.extractLsb' 6 2) = b := by
      revert b
      decide
    exact congrArg (fun x => Host.Outcome.next (sendData x s)) hb

theorem sendAddress_enabled {s : State} {b : Byte} (h : startEnabled s = true) (hb : outgoingAddress s = b) :
    sendAddress b s = resume (pStart s) := by
  simp [sendAddress, h, hb]

theorem sendData_enabled {s : State} {b : Byte} (h : txEnabled s = true) (hb : s.i2ctxbuf = b) : sendData b s = resume (pTx s) := by
  simp [sendData, h, hb]

/-- Settles O31: the address byte due is the one of I2CSA with the direction of TR. -/
theorem startSendsAddressByte : Obligations.StartSendsAddressByte := by
  rintro a s htt htp hconf rfl hph ack t
  have henabled : startEnabled s = true := (startEnabled_iff s).mpr ⟨htt, hconf, htp, hph⟩
  have ht : pStart s = t := pStart_eq s
  refine ⟨fun htr => ?_, fun htr => ?_⟩
  · rw [exec, execAddrWrite, sendAddress_enabled henabled (by rw [outgoingAddress, htr]; rfl), ht]
  · rw [exec, execAddrRead, sendAddress_enabled henabled (by rw [outgoingAddress, htr]; rfl), ht]

/-- Settles O32: the sensor command bytes are sent like any queued byte. -/
theorem sensorCommandBytesAreSent : Obligations.SensorCommandBytesAreSent := by
  intro s hp hq ack t
  have henabled : txEnabled s = true := (txEnabled_iff s).mpr ⟨hp, hq⟩
  have ht : pTx s = t := by rw [pTx_eq, hp]
  refine ⟨fun hb => ?_, fun oss hb => ?_⟩
  · rw [exec, execCtrlTemp, sendData_enabled (b := tempControlByte) henabled hb, ht]
  · rw [exec, execCtrlPress, sendData_enabled henabled (hb.trans (pressControlByte_eq oss).symm), ht]

theorem sendAddress_not_due {s : State} {a : BitVec 7} {rw : Bool} (h : startEnabled s = false ∨ s.i2csa ≠ a ∨ s.ctl.tr = rw) :
    sendAddress (addressByte a rw) s = s := by
  refine if_neg fun hc => ?_
  rw [Bool.and_eq_true, beq_iff_eq, outgoingAddress, addressByte_inj] at hc
  obtain ⟨he, ha, hd⟩ := hc
  obtain h | h | h := h
  · simp [he] at h
  · exact h ha
  · simp [h] at hd

theorem sendData_not_due {s : State} {b : Byte} (h : txEnabled s = false ∨ s.i2ctxbuf ≠ b) : sendData b s = s := by
  obtain h | h := h <;> simp [sendData, h]

/-- Settles O33, for the four byte rows by the one condition each bus step puts on its byte. -/
theorem bytesNotSentHaveNoEffect : Obligations.BytesNotSentHaveNoEffect := by
  intro s a oss
  refine ⟨fun h => ?_, fun h => ?_, fun h => ?_, fun h => ?_⟩
  · exact congrArg Host.Outcome.next (sendAddress_not_due h)
  · exact congrArg Host.Outcome.next (sendAddress_not_due h)
  · exact congrArg Host.Outcome.next (sendData_not_due h)
  · rw [← pressControlByte_eq] at h
    exact congrArg Host.Outcome.next (sendData_not_due h)

/-! ## The bus step -/

theorem busInstr_start {s : State} (h : startEnabled s = true) : busInstr s = some (decodeAddress (outgoingAddress s)) := by
  simp [busInstr, decode, h]

theorem busInstr_control {s : State} {i : Instr} (h : txEnabled s = true) (hdue : controlByteDue s = true)
    (hi : decodeControl s.i2ctxbuf = some i) : busInstr s = some i := by
  simp [busInstr, decode, h, hdue, hi, (txEnabled_exclusive h).1]

/-- Settles O12: each of the two bytes is the instruction the bus step runs. -/
theorem busByteRunsDecodedInstruction : Obligations.BusByteRunsDecodedInstruction := by
  intro s rest hs
  rw [step_move hs]
  refine ⟨fun h => ?_, fun i hp hq hdue hi => ?_⟩
  · have hinstr : busInstr { s with agenda := rest } = some (decodeAddress (outgoingAddress s)) := busInstr_start h
    rw [move, busStep, hinstr]
  · have henabled : txEnabled { s with agenda := rest } = true := (txEnabled_iff _).mpr ⟨hp, hq⟩
    rw [move, busStep, busInstr_control henabled hdue hi]

theorem busStep_start {s : State} (h : startEnabled s = true) : busStep s = .next (resume (pStart s)) := by
  rw [busStep, busInstr_start h]
  exact (exec_decodeAddress _ s).trans (congrArg Host.Outcome.next (sendAddress_enabled h rfl))

/-- P-TX sends the queued byte whether or not it is an instruction's (41_bus_controller.md R152). -/
theorem busStep_tx {s : State} (h : txEnabled s = true) : busStep s = .next (resume (pTx s)) := by
  obtain ⟨hstart, -, -⟩ := txEnabled_exclusive h
  have hplain : plainBusStep s = resume (pTx s) := by simp [plainBusStep, h]
  unfold busStep
  split
  case h_1 i hi =>
    have hd : decodeControl s.i2ctxbuf = some i := by
      cases hdue : controlByteDue s with
      | false => simp [busInstr, hstart, hdue] at hi
      | true => cases hd : decodeControl s.i2ctxbuf <;> simp_all [busInstr, decode]
    rw [exec_decodeControl hd, sendData_enabled h rfl]
  case h_2 => rw [hplain]

/-- P-RX and P-STOP send no byte. -/
theorem busInstr_none {s : State} (hstart : startEnabled s = false) (htx : txEnabled s = false) : busInstr s = none := by
  simp [busInstr, hstart, htx]

theorem busStep_rx {s : State} (h : rxEnabled s = true) : busStep s = .next (resume (pRx s)) := by
  obtain ⟨hstart, htx, -⟩ := rxEnabled_exclusive h
  rw [busStep, busInstr_none hstart htx]
  simp [plainBusStep, htx, h]

theorem busStep_stop {s : State} (h : stopEnabled s = true) : busStep s = .next (resume (pStop s)) := by
  obtain ⟨hstart, htx, hrx⟩ := stopEnabled_exclusive h
  rw [busStep, busInstr_none hstart htx]
  simp [plainBusStep, htx, hrx, h]

/-- Settles O34. -/
theorem transmitStepSendsQueuedByte : Obligations.TransmitStepSendsQueuedByte := by
  intro s rest hs hp hq ack
  have henabled : txEnabled { s with agenda := rest } = true := (txEnabled_iff _).mpr ⟨hp, hq⟩
  obtain ⟨hack, hpeer⟩ := drawAck_congr (s := s) (t := { s with agenda := rest }) rfl
  rw [step_move hs, move, busStep_tx henabled, pTx_eq, hack, hpeer]
  simp only [hp]
  rfl

/-- Settles O35. -/
theorem receiveStepTakesByte : Obligations.ReceiveStepTakesByte := by
  intro s rest hs hp hr b
  have henabled : rxEnabled { s with agenda := rest } = true := (rxEnabled_iff _).mpr ⟨hp, hr⟩
  obtain ⟨hbyte, hpeer⟩ := drawByte_congr (s := s) (t := { s with agenda := rest }) rfl
  rw [step_move hs, move, busStep_rx henabled, pRx_eq, hbyte, hpeer]
  simp only [hp]
  rfl

/-- Settles O36. -/
theorem stopStepFreesBus : Obligations.StopStepFreesBus := by
  intro s rest hs htp hp
  have henabled : stopEnabled { s with agenda := rest } = true := (stopEnabled_iff _).mpr ⟨htp, hp⟩
  rw [step_move hs, move, busStep_stop henabled]
  rfl

end Sys2Proof.Machine
end

section
/-! Proofs. O39, O40, O41, O44, O45, O46 and O47: how a command is taken or refused at issue, how a read follows a conversion, and how a
stuck command times out. -/

namespace Sys2Proof.Machine

/-! ## Waits (42_transport.md R181) -/

theorem resume_eq {s : State} {l : List Micro} (h : remaining s = l) : resume s = runMicro l s := by rw [resume, h]

theorem runMicro_wait_passed {c : FlagWait} {s : State} (h : c.holds s = true) (rest : List Micro) :
    runMicro (.wait c :: rest) s = runMicro rest (advance s) := by
  simp [runMicro_wait, h]

theorem runMicro_wait_held {c : FlagWait} {s : State} (h : c.holds s = false) (rest : List Micro) :
    runMicro (.wait c :: rest) s = s := by
  simp [runMicro_wait, h]

/-- Settles O45, by the three places where a run does nothing. -/
theorem engineReactsOnlyToItsWait : Obligations.EngineReactsOnlyToItsWait := by
  refine fun s => ⟨resume_idle, fun c rest hr hc => ?_, fun t rest hr => ?_⟩
  · rw [resume_eq hr, runMicro_wait_held hc]
  · rw [resume_eq hr, runMicro_convWait]

/-! ## The request of a write -/

/-- The flags are cleared and a START to write is requested, which SWRST makes void (42_transport.md R184, R186). -/
def writeRequested (s : State) : State :=
  { s with ifg := ⟨false, false, false⟩, ctl := { s.ctl with tr := true, txstt := !s.ctl.swrst } }

theorem requestStart_eq (s : State) :
    requestStart s = { s with ctl := { s.ctl with txstt := !s.ctl.swrst || s.ctl.txstt } } := by
  cases hr : s.ctl.swrst with
  | true =>
    have h : (!true || s.ctl.txstt) = s.ctl.txstt := Bool.false_or _
    rw [requestStart_held hr, h]
  | false => simp [requestStart_awake hr, hr]

/-- The first lines of WR and RD run to the wait on TXIFG. -/
theorem runMicro_requestWrite {s : State} (hs : ResetHeld s) (rest : List Micro) :
    runMicro (.clearFlags :: .start true :: .wait .txifgSet :: rest) s = advance (advance (writeRequested s)) := by
  obtain ⟨-, hclear⟩ := hs
  have hflags : writeIfg false false false s = { s with ifg := ⟨false, false, false⟩ } := by
    cases hr : s.ctl.swrst with
    | false => rw [writeIfg_awake hr]
    | true =>
      obtain ⟨-, -, hifg, -⟩ := hclear hr
      rw [writeIfg_held hr, ← hifg]
  have hstt : (!s.ctl.swrst || s.ctl.txstt) = !s.ctl.swrst := by
    cases hr : s.ctl.swrst with
    | false => rfl
    | true => exact (hclear hr).1
  have hact : act (.start true) (advance { s with ifg := ⟨false, false, false⟩ }) = .ok (advance (writeRequested s)) := by
    rw [act, writeCtl_start, requestStart_eq]
    simp [writeRequested, advance, hstt]
  rw [runMicro_of_act rfl rfl, hflags, runMicro_of_act rfl hact, runMicro_wait_held rfl]

/-- A read begins with no local bytes. -/
theorem runMicro_newRead {s : State} (hs : ResetHeld s) (rest : List Micro) :
    runMicro (.newRead :: .clearFlags :: .start true :: .wait .txifgSet :: rest) s =
      advance (advance (writeRequested (advance (setLocalBytes [] s)))) := by
  rw [runMicro_of_act rfl rfl, runMicro_requestWrite (s := advance (setLocalBytes [] s)) hs]

/-! ## Commands taken at issue (42_transport.md R180) -/

/-- A command taken stands at the beginning of its microprogram, with the operands of its word. -/
theorem remaining_takeCommand (op : BitVec 4) (oss : BitVec 2) (c : Command) (s : State) :
    remaining (takeCommand (commandWord op oss) c (acceptWord (commandWord op oss) s)) = program s.cfg c s.arg oss := by
  simp [remaining, wordOss_commandWord]

section
variable {s : State} {c : Command} {op : BitVec 4} {oss : BitVec 2} {rest : List Micro} (hs : ResetHeld s)
  (hb : s.status.busy = false) (hr : refusedAtIssue c s = none)
include hs hb hr

theorem issue_begun_write (hp : program s.cfg c s.arg oss = .clearFlags :: .start true :: .wait .txifgSet :: rest) :
    issue (commandWord op oss) c s = begun (commandWord op oss) c oss 2 s := by
  have htaken : ResetHeld (takeCommand (commandWord op oss) c (acceptWord (commandWord op oss) s)) := hs
  rw [issue_taken hb hr, resume_eq ((remaining_takeCommand ..).trans hp), runMicro_requestWrite htaken]
  simp [begun, writeRequested, advance, takeCommand, acceptWord, wordOss_commandWord]

theorem issue_begun_read
    (hp : program s.cfg c s.arg oss = .newRead :: .clearFlags :: .start true :: .wait .txifgSet :: rest) :
    issue (commandWord op oss) c s = begun (commandWord op oss) c oss 3 s := by
  have htaken : ResetHeld (takeCommand (commandWord op oss) c (acceptWord (commandWord op oss) s)) := hs
  rw [issue_taken hb hr, resume_eq ((remaining_takeCommand ..).trans hp), runMicro_newRead htaken]
  simp [begun, writeRequested, advance, setLocalBytes, takeCommand, acceptWord, wordOss_commandWord]

end

/-- Settles O39: the microprogram of WRITE_REG is WR and the end. -/
theorem writeRegBegins : Obligations.WriteRegBegins := fun _ _ hs hb =>
  congrArg Host.Outcome.next (issue_begun_write hs hb rfl rfl)

theorem refusedAtIssue_readBytes_of_legal {s : State} (h1 : 1 ≤ argCount s.arg) (h2 : argCount s.arg ≤ 32) :
    refusedAtIssue .readBytes s = none := by
  simp [refusedAtIssue, Config.rxdataSize, h1, h2]

theorem refusedAtIssue_of_calv {s : State} {c : Command} (hc : c = .measureT ∨ c = .measureP ∨ c = .calcT ∨ c = .calcP)
    (hv : s.status.calv = true) : refusedAtIssue c s = none := by
  simp [refusedAtIssue_of_pipeline hc, hv]

/-- Settles O40: the microprograms of READ_BYTES and READ_CAL begin with RD. -/
theorem readCommandsBegin : Obligations.ReadCommandsBegin := fun _ _ hs hb =>
  ⟨fun h1 h2 => congrArg Host.Outcome.next (issue_begun_read hs hb (refusedAtIssue_readBytes_of_legal h1 h2) rfl),
    congrArg Host.Outcome.next (issue_begun_read hs hb rfl rfl)⟩

/-- Settles O41: the microprograms of MEASURE_T and MEASURE_P begin with WR. -/
theorem measureCommandsBegin : Obligations.MeasureCommandsBegin := fun _ _ hs hb hv =>
  ⟨congrArg Host.Outcome.next (issue_begun_write hs hb (refusedAtIssue_of_calv (by simp) hv) rfl),
    congrArg Host.Outcome.next (issue_begun_write hs hb (refusedAtIssue_of_calv (by simp) hv) rfl)⟩

/-! ## Commands refused at issue (60_exceptions.md R282, R283) -/

theorem refusedAtIssue_readBytes_of_illegal {s : State} (h : argCount s.arg = 0 ∨ 32 < argCount s.arg) :
    refusedAtIssue .readBytes s = some .badArg := by
  have hcount : ¬ (1 ≤ argCount s.arg ∧ argCount s.arg ≤ 32) := by omega
  simp [refusedAtIssue, Config.rxdataSize, hcount]

/-- Settles O44, by the check at issue that refuses the command. -/
theorem refusalsAtIssue : Obligations.RefusalsAtIssue := by
  refine fun oss s hb => ⟨fun h => ?_, fun hv => ⟨?_, ?_⟩⟩
  · have hcount : argCount s.arg = 0 ∨ 32 < argCount s.arg := h.imp_left (congrArg BitVec.toNat)
    exact congrArg Host.Outcome.next (issue_refused_ended hb (refusedAtIssue_readBytes_of_illegal hcount) _)
  · exact congrArg Host.Outcome.next (issue_refused_ended hb (by simp [refusedAtIssue_of_pipeline, hv]) _)
  · exact congrArg Host.Outcome.next (issue_refused_ended hb (by simp [refusedAtIssue_of_pipeline, hv]) _)

/-! ## The conversion step (44_measurement.md R220) -/

theorem convStep_of_remaining {s : State} {t : Nat} {rest : List Micro} (h : remaining s = .convWait t :: rest) :
    convStep s = resume (advance (s.log (.convWait t))) := by
  simp only [convStep, h]

/-- The conversion wait is followed by a read of the result, which begins in the same step. -/
theorem convStep_starts_read {s : State} {r : Running} {t : Nat} {rest : List Micro} (hs : ResetHeld s) (he : s.eng = some r)
    (h : remaining s = .convWait t :: .newRead :: .clearFlags :: .start true :: .wait .txifgSet :: rest) :
    convStep s = { s with
      trace := s.trace ++ [.convWait t]
      eng := some { r with pos := r.pos + 4, bytes := [] }
      ifg := ⟨false, false, false⟩
      ctl := { s.ctl with tr := true, txstt := !s.ctl.swrst } } := by
  have hrem : remaining (advance (s.log (.convWait t))) = _ := remaining_advance (s := s.log (.convWait t)) h
  rw [convStep_of_remaining h, resume_eq hrem, runMicro_newRead (s := advance (s.log (.convWait t))) hs]
  simp [writeRequested, advance, setLocalBytes, State.log, he]

/-- The conversion wait of each oversampling setting (44_measurement.md R220). -/
theorem pressConvTime_eq (oss : BitVec 2) :
    pressConvTime oss = if oss = 0#2 then 4500 else if oss = 1#2 then 7500 else if oss = 2#2 then 13500 else 25500 := by
  revert oss
  decide

/-- The three conversion waits of the microprograms, each with the start of the read that follows it. -/
theorem remaining_at_convWait {s : State} {r : Running} {t : Nat} (he : s.eng = some r)
    (h : (r.cmd = .measureT ∧ r.pos = 9 ∧ t = 4500) ∨ (r.cmd = .measureP ∧ r.pos = 35 ∧ t = 4500) ∨
      (r.cmd = .measureP ∧ r.pos = 9 ∧ t = pressConvTime r.oss)) :
    ∃ rest, remaining s = .convWait t :: .newRead :: .clearFlags :: .start true :: .wait .txifgSet :: rest := by
  obtain ⟨hc, hp, rfl⟩ | ⟨hc, hp, rfl⟩ | ⟨hc, hp, rfl⟩ := h <;> exact ⟨_, by simp only [remaining, he, hc, hp]; rfl⟩

/-- Settles O46, by what follows each of the three conversion waits. -/
theorem conversionStepStartsRead : Obligations.ConversionStepStartsRead := by
  intro s rest r t hs hag he h
  rw [← pressConvTime_eq] at h
  obtain ⟨after, hrem⟩ := remaining_at_convWait he h
  have hconv := convStep_starts_read (s := { s with agenda := rest }) hs he hrem
  rw [step_move hag, move, hconv]

/-! ## The timeout step (42_transport.md R192) -/

/-- The STOP the timeout requests on an owned bus is logged once. -/
theorem timeoutEffect_eq {s : State} (hs : ResetHeld s) : timeoutEffect s =
    { s with
      ctl := { s.ctl with txstt := false, txstp := s.ctl.txstp || s.phase.owns }
      trace := if s.phase.owns && !s.ctl.txstp then s.trace ++ [.stopReq] else s.trace
      status := { s.status with busy := false, done := true, err := .busTimeout }
      eng := none } := by
  cases ho : s.phase.owns with
  | false => simp [timeoutEffect, raise, State.setTxstt, ho]
  | true =>
    have hphase := s.phase.owns_iff.mp ho
    have hidle : s.phase ≠ .idle := by rintro h; simp [h] at hphase
    have hr : s.ctl.swrst = false := by
      rw [← Bool.not_eq_true, hs.1]
      rintro h
      simp [h] at hphase
    cases htp : s.ctl.txstp <;>
      simp [timeoutEffect, raise, requestStop, State.setTxstt, State.setTxstp, State.log, ho, hidle, hr, htp]

/-- Settles O47, by whether the timeout step is enabled. -/
theorem timeoutEndsStuckCommand : Obligations.TimeoutEndsStuckCommand := by
  intro s rest hs hag
  rw [step_move hag]
  refine ⟨fun hstuck hpol => ?_, fun h => ?_⟩
  · have henabled : timeoutEnabled { s with agenda := rest } = true := by
      rw [timeoutEnabled, Bool.and_eq_true]
      exact ⟨by simp [hpol], hstuck⟩
    rw [move, timeoutStep, if_pos henabled, timeoutEffect_eq (s := { s with agenda := rest }) hs]
  · have hdisabled : timeoutEnabled { s with agenda := rest } = false := by
      rw [timeoutEnabled, Bool.and_eq_false_iff]
      exact h.symm.imp_left fun hpol => by simp [hpol]
    rw [move, timeoutStep, hdisabled]
    rfl

end Sys2Proof.Machine
end

section
/-! Proofs. O2, O4, O5 and O48: what one step can do to the state, said once for every agent, and what follows for the parameters, the
trace and a stuck engine. -/

namespace Sys2Proof.Machine

/-- Settles O2: the reset state is held in reset, idle and blank. -/
theorem resetSatisfiesInvariant : Obligations.ResetSatisfiesInvariant where
  resetHeld := ⟨⟨fun _ => rfl, fun _ => rfl⟩, fun _ => ⟨rfl, rfl, rfl, rfl⟩⟩
  noStopWhenIdle h := by cases h
  busyMatchesEngine := rfl
  runningNotDone h := by cases h
  engineAtWait := engineAtWait_of_idle rfl
  storeBlank _ := rfl
  framed := rfl

/-! ## What the bus controller leaves unchanged -/

/-- The data registers, the store with CALV, and the parameters are the same in both states, and the trace has only grown. -/
structure SameData (s t : State) : Prop where
  cfg : t.cfg = s.cfg := by rfl
  cal : t.cal = s.cal := by rfl
  calv : t.status.calv = s.status.calv := by rfl
  ut : t.ut = s.ut := by rfl
  up : t.up = s.up := by rfl
  t10 : t.t10 = s.t10 := by rfl
  p : t.p = s.p := by rfl
  b5 : t.b5 = s.b5 := by rfl
  rxdata : t.rxdata = s.rxdata := by rfl
  trace : ∃ l, t.trace = s.trace ++ l := by exact ⟨[], (List.append_nil _).symm⟩

theorem SameData.trans {s t u : State} (h : SameData s t) (k : SameData t u) : SameData s u where
  cfg := k.cfg.trans h.cfg
  cal := k.cal.trans h.cal
  calv := k.calv.trans h.calv
  ut := k.ut.trans h.ut
  up := k.up.trans h.up
  t10 := k.t10.trans h.t10
  p := k.p.trans h.p
  b5 := k.b5.trans h.b5
  rxdata := k.rxdata.trans h.rxdata
  trace := by
    obtain ⟨l, hl⟩ := h.trace
    obtain ⟨l', hl'⟩ := k.trace
    exact ⟨l ++ l', by rw [hl', hl, List.append_assoc]⟩

/-- What an access to the bus controller or a bus step can change: nothing of the engine besides the data. -/
structure BusSide (s t : State) : Prop extends SameData s t where
  eng : t.eng = s.eng := by rfl

namespace BusSide

theorem trans {s t u : State} (h : BusSide s t) (k : BusSide t u) : BusSide s u where
  toSameData := h.toSameData.trans k.toSameData
  eng := k.eng.trans h.eng

theorem abortIfOwned (s : State) : BusSide s (abortIfOwned s) := by
  unfold Machine.abortIfOwned
  split
  · exact { trace := ⟨[.abort], rfl⟩ }
  · exact {}

theorem configured (w : CtlWrite) (s : State) : BusSide s (resetTransition s.ctl.swrst w.swrst (writeConfig w s)) := by
  have hconfig : BusSide s (writeConfig w s) := {}
  obtain ⟨-, e⟩ | ⟨-, -, e⟩ | ⟨-, -, e⟩ := resetTransition_cases s.ctl.swrst w.swrst (writeConfig w s) <;> rw [e]
  · exact hconfig
  · exact { hconfig.trans (abortIfOwned _) with }
  · exact { hconfig with }

theorem requestStart (s : State) : BusSide s (requestStart s) := by
  rw [requestStart_eq]
  exact {}

theorem requestStop (s : State) : BusSide s (requestStop s) := by
  obtain e | ⟨-, -, e⟩ | ⟨-, -, -, e⟩ := requestStop_cases s <;> rw [e]
  · exact {}
  · exact {}
  · exact { trace := ⟨[.stopReq], rfl⟩ }

theorem writeCtl (w : CtlWrite) (s : State) : BusSide s (writeCtl w s) := by
  unfold Machine.writeCtl
  have h := configured w s
  dsimp only
  split <;> split
  · exact (h.trans (requestStart _)).trans (requestStop _)
  · exact h.trans (requestStop _)
  · exact h.trans (requestStart _)
  · exact h

theorem writeTxbuf (b : Byte) (s : State) : BusSide s (writeTxbuf b s) := by
  cases hr : s.ctl.swrst with
  | true => rw [writeTxbuf_held hr]; exact {}
  | false => rw [writeTxbuf_awake hr]; exact {}

theorem writeIfg (r t n : Bool) (s : State) : BusSide s (writeIfg r t n s) := by
  cases hr : s.ctl.swrst with
  | true => rw [writeIfg_held hr]; exact {}
  | false => rw [writeIfg_awake hr]; exact {}

theorem pStart (s : State) : BusSide s (pStart s) := by
  rw [pStart_eq]
  exact { trace := ⟨_, rfl⟩ }

theorem pTx (s : State) : BusSide s (pTx s) := by
  rw [pTx_eq]
  exact { trace := ⟨_, rfl⟩ }

theorem pRx (s : State) : BusSide s (pRx s) := by
  rw [pRx_eq]
  exact { trace := ⟨_, List.append_assoc ..⟩ }

theorem pStop (s : State) : BusSide s (pStop s) := { trace := ⟨[.stop], rfl⟩ }

end BusSide

/-! ## What one step can do -/

/-- The operation of a command (30_encoding.md R113). -/
def opCode : Command → BitVec 4
  | .init => 0x1#4
  | .writeReg => 0x2#4
  | .readBytes => 0x3#4
  | .readCal => 0x4#4
  | .measureT => 0x5#4
  | .measureP => 0x6#4
  | .calcT => 0x7#4
  | .calcP => 0x8#4

/-- The state after a move, the agenda apart: one case per kind of step, with what enables it (00_scope.md R11). -/
inductive Effect (m : Move) (s : State) : State → Prop
  | nothing : Effect m s s
  | read (v : Word) (take : Bool) : (take = true → s.status.busy = false) → Effect m s (noteRead v (readRxbuf take s))
  | overrun : s.status.busy = true → Effect m s s.setOvr
  | register {t : State} : s.status.busy = false → BusSide s t → Effect m s t
  | data {off : BitVec 7} {v : Word} : s.status.busy = false → m = .access (.write 2 off v) → Effect m s (storeData off v s)
  | refused (w : Word) (e : Err) : s.status.busy = false → Effect m s (raise e (acceptWord w s))
  | taken {c : Command} {oss : BitVec 2} : s.status.busy = false → m = .access (.write 2 offCmd (commandWord (opCode c) oss)) →
      refusedAtIssue c s = none → Effect m s (issue (commandWord (opCode c) oss) c s)
  | bus {t : State} : busEnabled s = true → BusSide s t → (BusInv s → BusInv t) → Effect m s (resume t)
  | conv {n : Nat} {rest : List Micro} : remaining s = .convWait n :: rest →
      Effect m s (resume (advance (s.log (.convWait n))))
  | timeout : timeoutEnabled s = true → Effect m s (timeoutEffect s)
  | reset : m = .blockReset → Effect m s (blockReset s)

/-! ### Host accesses -/

/-- A read notes its value, and takes the byte of I2CRXBUF only while no command runs (20_memory.md R87). -/
theorem hostAccess_read_cases {n : Nat} {off : BitVec 7} {s t : State} (h : hostAccess (.read n off) s = .next t) :
    ∃ v take, (take = true → s.status.busy = false) ∧ t = noteRead v (readRxbuf take s) := by
  cases hshape : (Access.read n off).shapeOk with
  | false => rw [hostAccess_of_not_shapeOk hshape] at h; cases h
  | true =>
    simp only [Access.shapeOk, Bool.and_eq_true, beq_iff_eq] at hshape
    obtain ⟨rfl, heven⟩ := hshape
    by_cases hoff : off = offI2crxbuf
    · subst hoff
      cases h
      exact ⟨_, _, by simp, rfl⟩
    · rw [hostAccess_read heven hoff] at h
      cases h
      exact ⟨_, false, by simp, rfl⟩

/-- A command word that decodes issues the command whose operation it holds (30_encoding.md R114). -/
theorem exec_issues_command {w : Word} {i : Instr} (h : decodeCommand w = some i) :
    ∃ c oss, (∀ s, exec i s = .next (issue w c s)) ∧ w = commandWord (opCode c) oss := by
  unfold decodeCommand at h
  split at h
  case isFalse => cases h
  case isTrue hrsv =>
    dsimp only at h
    split at h <;> cases h
    all_goals
      have hw := commandWord_of_fields hrsv ‹_›
      exact ⟨_, _, fun s => congrArg (fun v => Host.Outcome.next (issue v _ s)) hw, hw.symm⟩

/-- A write of CMD is an overrun, a refusal, or takes the command of its word (42_transport.md R180). -/
theorem hostAccess_cmd_effect {w : Word} {s t : State} (h : hostAccess (.write 2 offCmd w) s = .next t) :
    Effect (.access (.write 2 offCmd w)) s t := by
  cases hd : decodeCommand w with
  | none =>
    rw [hostAccess, decode_cmd_of_none hd] at h
    cases h
    cases hb : s.status.busy with
    | true => rw [issueIllegal_busy hb]; exact .overrun hb
    | false => rw [issueIllegal_idle hb]; exact .refused w _ hb
  | some i =>
    obtain ⟨c, oss, hi, rfl⟩ := exec_issues_command hd
    rw [hostAccess_of_decode (decode_cmd_of_some hd _), hi] at h
    cases h
    cases hb : s.status.busy with
    | true => rw [issue_busy hb]; exact .overrun hb
    | false =>
      cases hr : refusedAtIssue c s with
      | some e => rw [issue_refused hb hr]; exact .refused _ e hb
      | none => exact .taken hb rfl hr

/-- A write of any other register changes the bus controller's side only, or is the store of a data register. -/
theorem decodeAccess_write_cases {off : BitVec 7} (h : off ≠ offCmd) (swrst : Bool) (n : Nat) (v : Word) :
    (∃ i f, decodeAccess swrst (.write n off v) = .ok i ∧ (∀ s, exec i s = .next (hostWrite f s)) ∧ ∀ s, BusSide s (f s)) ∨
    decodeAccess swrst (.write n off v) = .error .plainAccess := by
  simp only [decodeAccess, if_neg h]
  split_ifs
  · exact .inl ⟨_, _, rfl, exec_decodeCtl swrst _, .writeCtl _⟩
  · exact .inl ⟨_, _, rfl, fun _ => rfl, fun _ => {}⟩
  · exact .inl ⟨_, _, rfl, fun _ => rfl, .writeTxbuf _⟩
  · exact .inl ⟨_, _, rfl, fun _ => rfl, fun _ => {}⟩
  · exact .inl ⟨_, _, rfl, fun _ => rfl, .writeIfg _ _ _⟩
  · exact .inr rfl

theorem hostAccess_effect {a : Access} {s t : State} (h : hostAccess a s = .next t) : Effect (.access a) s t := by
  cases a with
  | read n off =>
    obtain ⟨v, take, htake, rfl⟩ := hostAccess_read_cases h
    exact .read v take htake
  | write n off v =>
    cases hshape : (Access.write n off v).shapeOk with
    | false => rw [hostAccess_of_not_shapeOk hshape] at h; cases h
    | true =>
      have hd : decode s.ctl.swrst (.host (.write n off v)) = decodeAccess s.ctl.swrst (.write n off v) := if_pos hshape
      simp only [Access.shapeOk, Bool.and_eq_true, beq_iff_eq] at hshape
      obtain ⟨rfl, -⟩ := hshape
      by_cases hoff : off = offCmd
      · subst hoff
        exact hostAccess_cmd_effect h
      · obtain ⟨i, f, hi, hf, hside⟩ | hplain := decodeAccess_write_cases hoff s.ctl.swrst 2 v
        · rw [hostAccess_of_decode (hd.trans hi), hf] at h
          cases h
          cases hb : s.status.busy with
          | true => rw [hostWrite_busy hb]; exact .nothing
          | false => rw [hostWrite_idle hb]; exact .register hb (hside s)
        · simp only [hostAccess, hd, hplain, plainAccess] at h
          cases h
          cases hb : s.status.busy with
          | true => rw [hostWrite_busy hb]; exact .nothing
          | false => rw [hostWrite_idle hb]; exact .data hb rfl

/-! ### Steps of the block -/

theorem busEnabled_iff (s : State) : busEnabled s = true ↔
    startEnabled s = true ∨ txEnabled s = true ∨ rxEnabled s = true ∨ stopEnabled s = true := by
  simp [busEnabled, or_assoc]

/-- A bus step that is not enabled does nothing (log entry 4). -/
theorem busStep_disabled {s : State} (h : busEnabled s = false) : busStep s = .next s := by
  simp only [busEnabled, Bool.or_eq_false_iff] at h
  obtain ⟨⟨⟨hstart, htx⟩, hrx⟩, hstop⟩ := h
  rw [busStep, busInstr_none hstart htx]
  simp [plainBusStep, htx, hrx, hstop]

theorem busStep_effect {m : Move} {s t : State} (h : busStep s = .next t) : Effect m s t := by
  cases he : busEnabled s with
  | false => rw [busStep_disabled he] at h; cases h; exact .nothing
  | true =>
    obtain hs | hs | hs | hs := (busEnabled_iff s).mp he
    · rw [busStep_start hs] at h; cases h; exact .bus he (.pStart s) fun hi => hi.pStart hs
    · rw [busStep_tx hs] at h; cases h; exact .bus he (.pTx s) fun hi => hi.pTx hs
    · rw [busStep_rx hs] at h; cases h; exact .bus he (.pRx s) fun hi => hi.pRx hs
    · rw [busStep_stop hs] at h; cases h; exact .bus he (.pStop s) fun hi => hi.pStop hs

theorem convStep_effect (m : Move) (s : State) : Effect m s (convStep s) := by
  unfold convStep
  split
  · exact .conv ‹_›
  · exact .nothing

theorem timeoutStep_effect (m : Move) (s : State) : Effect m s (timeoutStep s) := by
  unfold timeoutStep
  split
  · exact .timeout ‹_›
  · exact .nothing

theorem autoStep_effect {m : Move} {s t : State} (h : autoStep s = .next t) : Effect m s t := by
  unfold autoStep at h
  split at h
  · exact busStep_effect h
  · split at h <;> cases h
    · exact convStep_effect m s
    · exact timeoutStep_effect m s

/-- A move has one effect, and may leave another agenda. -/
theorem move_effect {m : Move} {s t : State} (h : move m s = .next t) : ∃ u l, Effect m s u ∧ t = { u with agenda := l } := by
  cases m <;> simp only [move, pollStep] at h
  case access a => exact ⟨t, t.agenda, hostAccess_effect h, rfl⟩
  case poll off mask v =>
    split at h
    · rename_i s' hread
      obtain ⟨x, take, htake, rfl⟩ := hostAccess_read_cases hread
      split at h <;> cases h
      · exact ⟨_, _, .read x take htake, rfl⟩
      · exact ⟨_, _, .read x take htake, rfl⟩
    · cases h
    · cases h
  case bus => exact ⟨t, t.agenda, busStep_effect h, rfl⟩
  case conv => cases h; exact ⟨_, _, convStep_effect _ s, rfl⟩
  case timeout => cases h; exact ⟨_, _, timeoutStep_effect _ s, rfl⟩
  case auto => exact ⟨t, t.agenda, autoStep_effect h, rfl⟩
  case blockReset => cases h; exact ⟨_, _, .reset rfl, rfl⟩

/-- A step has the effect of the move at the head of the agenda, or of the block's own step. -/
theorem step_effect {s t : State} (h : step s = .next t) :
    ∃ u l, Effect (s.agenda.headD .auto) { s with agenda := s.agenda.tail } u ∧ t = { u with agenda := l } := by
  cases ha : s.agenda with
  | nil =>
    rw [step_auto ha] at h
    have hs : { s with agenda := [] } = s := by rw [← ha]
    rw [List.tail_nil, hs]
    exact ⟨t, t.agenda, autoStep_effect h, rfl⟩
  | cons m rest =>
    rw [step_move ha] at h
    exact move_effect h

theorem head_of_headD {s : State} {m : Move} (h : s.agenda.headD .auto = m) (hm : m ≠ .auto) : ∃ rest, s.agenda = m :: rest := by
  cases ha : s.agenda with
  | nil => rw [ha] at h; exact absurd h.symm hm
  | cons m' rest => rw [ha] at h; exact ⟨rest, by rw [← h]; rfl⟩

/-! ## The parameters and the trace -/

/-- The parameters are the same and the trace has only grown (10_state.md R63, R65). -/
def Later (s t : State) : Prop := t.cfg = s.cfg ∧ ∃ l, t.trace = s.trace ++ l

theorem Later.refl (s : State) : Later s s := ⟨rfl, [], (List.append_nil _).symm⟩

theorem Later.trans {s t u : State} (h : Later s t) (k : Later t u) : Later s u := by
  obtain ⟨hc, l, hl⟩ := h
  obtain ⟨kc, l', hl'⟩ := k
  exact ⟨kc.trans hc, l ++ l', by rw [hl', hl, List.append_assoc]⟩

theorem SameData.later {s t : State} (h : SameData s t) : Later s t := ⟨h.cfg, h.trace⟩

theorem act_later {m : Micro} {s t : State} (h : act m s = .ok t) : Later s t := by
  cases m <;> simp only [act, Except.ok.injEq] at h
  case writeCtl v => subst h; exact (BusSide.writeCtl _ s).later
  case start tr => subst h; exact (BusSide.writeCtl _ s).later
  case clearFlags => subst h; exact (BusSide.writeIfg _ _ _ s).later
  case stop => subst h; exact (BusSide.requestStop s).later
  case send b => subst h; exact (BusSide.writeTxbuf b s).later
  case calcTemp | calcPress => split at h <;> cases h; exact .refl s
  all_goals subst h; exact .refl s

theorem resume_later (s : State) : Later s (resume s) :=
  runMicro_keeps (P := Later s) (fun _ _ x hx ha => (hx.trans (act_later ha) : Later s x)) (fun _ hx => hx) (fun _ hx => hx) (fun _ _ hx => hx)
    _ _ (.refl s)

theorem storeData_later (off : BitVec 7) (v : Word) (s : State) : Later s (storeData off v s) := by
  unfold storeData
  dsimp only
  split_ifs <;> exact .refl s

theorem Effect.later {m : Move} {s u : State} (h : Effect m s u) : Later s u := by
  cases h with
  | nothing => exact .refl s
  | read v take _ => cases take <;> exact .refl s
  | overrun _ => exact .refl s
  | register _ hs => exact hs.later
  | data _ _ => exact storeData_later _ _ s
  | refused w e _ => exact .refl s
  | taken hb _ hr => rw [issue_taken hb hr]; exact resume_later _
  | bus _ hs _ => exact hs.later.trans (resume_later _)
  | @conv n _ _ =>
    have hlog : Later s (advance (s.log (.convWait n))) := ⟨rfl, [.convWait n], rfl⟩
    exact hlog.trans (resume_later _)
  | timeout _ =>
    unfold timeoutEffect
    dsimp only
    split
    · exact (BusSide.requestStop (s.setTxstt false)).later
    · exact .refl s
  | reset _ => exact ⟨rfl, (BusSide.abortIfOwned s).trace⟩

theorem step_later {s t : State} (h : step s = .next t) : Later s t := by
  obtain ⟨u, l, hu, rfl⟩ := step_effect h
  exact hu.later

/-- Settles O4. -/
theorem noStepChangesParameters : Obligations.NoStepChangesParameters := fun _ _ h => (step_later h).1

/-- Settles O5. -/
theorem traceOnlyGrows : Obligations.TraceOnlyGrows := fun _ _ h => (step_later h).2

/-! ## A stuck engine under BLOCK -/

theorem stuck_iff (s : State) :
    stuck s = true ↔ (∃ c rest, remaining s = .wait c :: rest ∧ c.holds s = false) ∧ busEnabled s = false := by
  unfold stuck
  split
  · rename_i c rest hr
    simp [hr]
  · rename_i hne
    simp only [Bool.false_eq_true, false_iff, not_and]
    rintro ⟨c, rest, hr, -⟩
    exact absurd hr (hne c rest)

theorem stuck_busy {s : State} (hb : BusyMatchesEngine s) (h : stuck s = true) : s.status.busy = true := by
  obtain ⟨⟨c, rest, hr, -⟩, -⟩ := (stuck_iff s).mp h
  unfold BusyMatchesEngine at hb
  rw [hb]
  cases he : s.eng with
  | none => simp [remaining_idle he] at hr
  | some r => rfl

/-- All that a step but block reset can do about a stuck engine under BLOCK is to note a read or an overrun. -/
theorem Effect.of_stuck {m : Move} {s u : State} (h : Effect m s u) (hb : BusyMatchesEngine s) (hstuck : stuck s = true)
    (hpol : s.cfg.policy = .block) (hm : m ≠ .blockReset) : u = s ∨ (∃ v, u = noteRead v s) ∨ u = s.setOvr := by
  have hbusy := stuck_busy hb hstuck
  obtain ⟨⟨c, rest, hr, hc⟩, hbus⟩ := (stuck_iff s).mp hstuck
  cases h with
  | nothing => exact .inl rfl
  | read v take htake =>
    cases take with
    | false => exact .inr (.inl ⟨v, rfl⟩)
    | true => simp [hbusy] at htake
  | overrun _ => exact .inr (.inr rfl)
  | register hidle _ | data hidle _ | refused _ _ hidle | taken hidle _ _ => simp [hbusy] at hidle
  | bus he _ _ => simp [hbus] at he
  | conv hconv => simp [hr] at hconv
  | timeout he => simp [timeoutEnabled, hpol] at he
  | reset hreset => exact absurd hreset hm

/-- Settles O48: what a step can still do does not reach the bus or the engine. -/
theorem stuckStaysStuckUnderBlock : Obligations.StuckStaysStuckUnderBlock := by
  intro s t hb hstuck hpol hreset h
  have hm : s.agenda.headD .auto ≠ .blockReset := fun hm => by
    obtain ⟨rest, hr⟩ := head_of_headD hm (by simp)
    exact hreset rest hr
  obtain ⟨u, l, hu, rfl⟩ := step_effect h
  obtain rfl | ⟨v, rfl⟩ | rfl := hu.of_stuck hb hstuck hpol hm <;>
    exact ⟨hstuck, stuck_busy hb hstuck, rfl, rfl, rfl, rfl, rfl, rfl⟩

end Sys2Proof.Machine
end

section
/-! Proofs. O6 and O7: a run of a microprogram carries out bus transfers and waits up to its final block, which stores the results and ends
the command; MEASURE_P has one such block more, where its first cycle hands over to its second. -/

namespace Sys2Proof.Machine

/-! ## Runs over bus transfers and waits -/

/-- An item that stores no result and does not end the command: waits and the accesses of WR and RD (42_transport.md R184, R186). -/
def Micro.isTransport : Micro → Bool
  | .clearFlags | .start _ | .stop | .send _ | .newRead | .take | .wait _ | .convWait _ => true
  | _ => false

/-- The engine has passed `n` items with no data register changed; the bytes collected may differ. -/
structure CarriedOn (n : Nat) (s t : State) : Prop extends SameData s t where
  eng : ∃ d, t.eng = s.eng.map fun r => { r with pos := r.pos + n, bytes := d }
  busInv : BusInv s → BusInv t

theorem CarriedOn.refl (s : State) : CarriedOn 0 s s where
  eng := ⟨localBytes s, by cases h : s.eng <;> simp [localBytes, h]⟩
  busInv := id

theorem CarriedOn.advance (s : State) : CarriedOn 1 s (advance s) where
  eng := ⟨localBytes s, by cases h : s.eng <;> simp [localBytes, h]⟩
  busInv h := { h with }

theorem CarriedOn.trans {n k : Nat} {s t u : State} (h : CarriedOn n s t) (i : CarriedOn k t u) : CarriedOn (n + k) s u where
  toSameData := h.toSameData.trans i.toSameData
  eng := by
    obtain ⟨_, hd⟩ := h.eng
    obtain ⟨d, hd'⟩ := i.eng
    exact ⟨d, by rw [hd', hd]; cases s.eng <;> simp [Nat.add_assoc]⟩
  busInv hs := i.busInv (h.busInv hs)

theorem act_sameData_of_transport {m : Micro} (hm : m.isTransport = true) {s t : State} (h : act m s = .ok t) : SameData s t := by
  cases m <;> simp only [Micro.isTransport, Bool.false_eq_true] at hm <;> simp only [act, Except.ok.injEq] at h <;> subst h
  case start tr => exact (BusSide.writeCtl _ s).toSameData
  case clearFlags => exact (BusSide.writeIfg _ _ _ s).toSameData
  case stop => exact (BusSide.requestStop s).toSameData
  case send b => exact (BusSide.writeTxbuf b s).toSameData
  all_goals exact {}

theorem act_carriedOn_of_transport {m : Micro} (hm : m.isTransport = true) {s t : State} (h : act m s = .ok t) :
    CarriedOn 1 s (advance t) := by
  have hact : CarriedOn 0 s t :=
    { act_sameData_of_transport hm h with
      eng := by
        obtain ⟨d, hd⟩ := (act_commandGoesOn h).eng
        exact ⟨d, hd⟩
      busInv := fun hb => hb.act h }
  exact hact.trans (.advance t)

theorem act_ok_of_transport {m : Micro} (hm : m.isTransport = true) (s : State) : ∃ t, act m s = .ok t := by
  cases m <;> simp only [Micro.isTransport, Bool.false_eq_true] at hm <;> exact ⟨_, rfl⟩

/-- A run over transfers and waits stops at one of them or comes to what follows, with no data register changed. -/
theorem runMicro_transport (l rest : List Micro) (hl : ∀ m ∈ l, m.isTransport = true) (s : State) :
    ∃ n t, CarriedOn n s t ∧ (runMicro (l ++ rest) s = t ∨ (n = l.length ∧ runMicro (l ++ rest) s = runMicro rest t)) := by
  induction l generalizing s with
  | nil => exact ⟨0, s, .refl s, .inr ⟨rfl, rfl⟩⟩
  | cons m l ih =>
    have hm := hl m (by simp)
    have hl' : ∀ m ∈ l, m.isTransport = true := fun x hx => hl x (by simp [hx])
    have onward : ∀ t, CarriedOn 1 s t → runMicro (m :: l ++ rest) s = runMicro (l ++ rest) t →
        ∃ n u, CarriedOn n s u ∧
          (runMicro (m :: l ++ rest) s = u ∨ (n = (m :: l).length ∧ runMicro (m :: l ++ rest) s = runMicro rest u)) := by
      intro t ht hrun
      obtain ⟨n, u, hu, hend⟩ := ih hl' t
      rw [hrun]
      exact ⟨1 + n, u, ht.trans hu, hend.imp_right fun ⟨hn, h⟩ => ⟨by simp [hn, Nat.add_comm], h⟩⟩
    by_cases hact : m.isAct = true
    · obtain ⟨t, ht⟩ := act_ok_of_transport hm s
      exact onward (advance t) (act_carriedOn_of_transport hm ht) (runMicro_of_act hact ht _)
    · cases m <;> simp only [Micro.isAct, not_true_eq_false] at hact
      case wait c =>
        cases hc : c.holds s with
        | true => exact onward (advance s) (.advance s) (runMicro_wait_passed hc _)
        | false => exact ⟨0, s, .refl s, .inl (runMicro_wait_held hc _)⟩
      case convWait t => exact ⟨0, s, .refl s, .inl (runMicro_convWait t _ s)⟩
      case finish => cases hm

/-! ## The shape of the microprograms -/

/-- What a command does after its last wait: it stores its results and ends. -/
def finalBlock (c : Command) : List Micro :=
  match c with
  | .init => [.writeCtl 0x0001#16, .writeCtl 0x0F81#16, .writeBrw, .writeSa, .writeCtl 0x0F80#16, .finish]
  | .writeReg => [.finish]
  | .readBytes => [.storeRx, .finish]
  | .readCal => [.storeRx, .storeCal, .finish]
  | .measureT => [.storeRx, .storeUt, .calcTemp, .finish]
  | .measureP => [.storeRx, .storeUt, .calcPress, .finish]
  | .calcT => [.calcTemp, .finish]
  | .calcP => [.calcPress, .finish]

theorem not_isTransport_of_mem_finalBlock {c : Command} : ∀ m ∈ finalBlock c, m.isTransport = false := by
  cases c <;> simp [finalBlock, Micro.isTransport]

theorem wrProgram_isTransport (r v : Byte) : ∀ m ∈ wrProgram r v, m.isTransport = true := by
  simp [wrProgram, Micro.isTransport]

theorem rdProgram_split (r : Byte) (n : Nat) : ∃ l, rdProgram r n = l ++ [.storeRx] ∧ ∀ m ∈ l, m.isTransport = true := by
  refine ⟨_, rfl, fun m hm => ?_⟩
  have hbyte : ∀ i, ∀ x ∈ rdByte n i, x.isTransport = true := by
    intro i
    unfold rdByte
    split <;> simp [Micro.isTransport]
  rw [List.mem_append, List.mem_append] at hm
  obtain (hm | hm) | hm := hm
  · revert hm
    simp only [List.mem_cons, List.not_mem_nil, or_false]
    rintro (rfl | rfl | rfl | rfl | rfl | rfl | rfl) <;> rfl
  · revert hm
    split
    · simp only [List.mem_cons, List.not_mem_nil, or_false]
      rintro (rfl | rfl) <;> rfl
    · simp
  · obtain ⟨i, -, hi⟩ := List.mem_flatMap.mp hm
    exact hbyte i m hi

/-- Both cycles: a write, the conversion wait and the read of the result. -/
theorem cycle_split (b r : Byte) (t n : Nat) :
    ∃ l, wrProgram Config.regCtrl b ++ [.convWait t] ++ rdProgram r n = l ++ [.storeRx] ∧ ∀ m ∈ l, m.isTransport = true := by
  obtain ⟨l, hl, ht⟩ := rdProgram_split r n
  refine ⟨wrProgram Config.regCtrl b ++ [.convWait t] ++ l, by rw [hl, List.append_assoc, List.append_assoc, List.append_assoc], ?_⟩
  intro m hm
  rw [List.mem_append, List.mem_append] at hm
  obtain (hm | hm) | hm := hm
  · exact wrProgram_isTransport _ _ m hm
  · rw [List.mem_singleton] at hm
    subst hm
    rfl
  · exact ht m hm

theorem tcycle_split (cfg : Config) : ∃ l, tcycle cfg = l ++ [.storeRx, .storeUt] ∧ ∀ m ∈ l, m.isTransport = true := by
  obtain ⟨l, hl, ht⟩ := cycle_split tempControlByte cfg.regOut tempConvTime 2
  exact ⟨l, by rw [tcycle, hl, List.append_assoc]; rfl, ht⟩

theorem pcycle_split (cfg : Config) (oss : BitVec 2) :
    ∃ l, pcycle cfg oss = l ++ [.storeRx, .storeUp] ∧ (∀ m ∈ l, m.isTransport = true) ∧ l.length = 24 := by
  obtain ⟨l, hl, ht⟩ := cycle_split (pressControlByte oss) cfg.regOut (pressConvTime oss) 3
  refine ⟨l, by rw [pcycle, hl, List.append_assoc]; rfl, ht, ?_⟩
  have hlen := congrArg List.length hl
  have htotal : (wrProgram Config.regCtrl (pressControlByte oss) ++ [Micro.convWait (pressConvTime oss)] ++
      rdProgram cfg.regOut 3).length = 25 := rfl
  rw [htotal, List.length_append, List.length_singleton] at hlen
  omega

/-- Where MEASURE_P hands over from its pressure cycle to its temperature cycle: the block that stores UP and begins the second WR. -/
def handOver (rest : List Micro) : List Micro :=
  .storeRx :: .storeUp :: .clearFlags :: .start true :: .wait .txifgSet :: rest

/-- What is left of a microprogram at `pos` is transfers and waits up to the final block, or up to the hand-over. -/
def OnCourse (c : Command) (pos : Nat) (l : List Micro) : Prop :=
  (∃ a, (∀ m ∈ a, m.isTransport = true) ∧ l = a ++ finalBlock c) ∨
  (c = .measureP ∧ ∃ a rest, (∀ m ∈ a, m.isTransport = true) ∧ l = a ++ handOver rest ∧ pos + a.length = 24)

/-- The shape of every microprogram: MEASURE_P has its pressure cycle before the hand-over. -/
theorem program_split (cfg : Config) (c : Command) (arg : Word) (oss : BitVec 2) :
    (∃ a, (∀ m ∈ a, m.isTransport = true) ∧ program cfg c arg oss = a ++ finalBlock c) ∨
    (c = .measureP ∧ ∃ a b rest, (∀ m ∈ a, m.isTransport = true) ∧ a.length = 24 ∧ (∀ m ∈ b, m.isTransport = true) ∧
      program cfg c arg oss = a ++ handOver rest ∧ handOver rest = .storeRx :: .storeUp :: (b ++ finalBlock c)) := by
  cases c
  case init => exact .inl ⟨[], by simp, rfl⟩
  case writeReg => exact .inl ⟨_, wrProgram_isTransport _ _, rfl⟩
  case readBytes =>
    obtain ⟨l, hl, ht⟩ := rdProgram_split (argReg arg) (argCount arg)
    exact .inl ⟨l, ht, by rw [program, hl, List.append_assoc]; rfl⟩
  case readCal =>
    obtain ⟨l, hl, ht⟩ := rdProgram_split cfg.regCal Config.calBytes
    exact .inl ⟨l, ht, by rw [program, hl, List.append_assoc]; rfl⟩
  case measureT =>
    obtain ⟨l, hl, ht⟩ := tcycle_split cfg
    exact .inl ⟨l, ht, by rw [program, hl, List.append_assoc]; rfl⟩
  case measureP =>
    obtain ⟨a, ha, hat, hlen⟩ := pcycle_split cfg oss
    obtain ⟨b, hb, hbt⟩ := tcycle_split cfg
    have hfinal : tcycle cfg ++ [.calcPress, .finish] = b ++ finalBlock .measureP := by rw [hb, List.append_assoc]; rfl
    refine .inr ⟨rfl, a, b, _, hat, hlen, hbt, ?_, by rw [← hfinal]; rfl⟩
    rw [program, ha, List.append_assoc, List.append_assoc]
    rfl
  case calcT => exact .inl ⟨[], by simp, rfl⟩
  case calcP => exact .inl ⟨[], by simp, rfl⟩

theorem program_onCourse (cfg : Config) (c : Command) (arg : Word) (oss : BitVec 2) : OnCourse c 0 (program cfg c arg oss) := by
  obtain ⟨a, ha, hp⟩ | ⟨hc, a, b, rest, ha, hlen, -, hp, -⟩ := program_split cfg c arg oss
  · exact .inl ⟨a, ha, hp⟩
  · exact .inr ⟨hc, a, rest, ha, hp, by omega⟩

/-- Past one transfer or wait the rest is still on course. -/
theorem OnCourse.tail {c : Command} {pos : Nat} {m : Micro} {l : List Micro} (h : OnCourse c pos (m :: l))
    (hm : m.isTransport = true) : OnCourse c (pos + 1) l := by
  obtain ⟨a, ha, hl⟩ | ⟨hc, a, rest, ha, hl, hpos⟩ := h
  · cases a with
    | nil =>
      have := not_isTransport_of_mem_finalBlock (c := c) m (by rw [← List.nil_append (finalBlock c), ← hl]; simp)
      simp [hm] at this
    | cons x a =>
      obtain ⟨-, rfl⟩ := List.cons.inj hl
      exact .inl ⟨a, fun y hy => ha y (by simp [hy]), rfl⟩
  · cases a with
    | nil =>
      obtain ⟨rfl, -⟩ := List.cons.inj hl
      cases hm
    | cons x a =>
      obtain ⟨-, rfl⟩ := List.cons.inj hl
      exact .inr ⟨hc, a, rest, fun y hy => ha y (by simp [hy]), rfl, by simp at hpos; omega⟩

/-- Where a transfer or a wait comes next, the final block lies ahead. -/
theorem OnCourse.of_drop {c : Command} {a : List Micro} (ha : ∀ m ∈ a, m.isTransport = true) {k pos : Nat} {m : Micro}
    {l : List Micro} (h : (a ++ finalBlock c).drop k = m :: l) (hm : m.isTransport = true) : OnCourse c pos (m :: l) := by
  by_cases hk : k ≤ a.length
  · rw [List.drop_append_of_le_length hk] at h
    exact .inl ⟨a.drop k, fun x hx => ha x (List.mem_of_mem_drop hx), h.symm⟩
  · rw [List.drop_append, List.drop_eq_nil_of_le (by omega), List.nil_append] at h
    have hmem : m ∈ finalBlock c := List.mem_of_mem_drop (h ▸ List.mem_cons_self)
    simp [not_isTransport_of_mem_finalBlock m hmem] at hm

/-- A running engine at a transfer or a wait is on course. -/
theorem remaining_onCourse {s : State} {r : Running} (he : s.eng = some r) {m : Micro} {l : List Micro}
    (h : remaining s = m :: l) (hm : m.isTransport = true) : OnCourse r.cmd r.pos (m :: l) := by
  simp only [remaining, he] at h
  obtain ⟨a, ha, hp⟩ | ⟨hc, a, b, rest, ha, hlen, hb, hp, hover⟩ := program_split s.cfg r.cmd r.arg r.oss
  · exact .of_drop ha (hp ▸ h) hm
  · rw [hp] at h
    by_cases hk : r.pos ≤ a.length
    · rw [List.drop_append_of_le_length hk] at h
      refine .inr ⟨hc, a.drop r.pos, rest, fun x hx => ha x (List.mem_of_mem_drop hx), h.symm, ?_⟩
      rw [List.length_drop]
      omega
    · rw [List.drop_append, List.drop_eq_nil_of_le (by omega), List.nil_append, hover] at h
      obtain hk' | ⟨k, hk'⟩ : r.pos - a.length = 1 ∨ ∃ k, r.pos - a.length = k + 2 := by
        obtain hk' | hk' : r.pos - a.length = 1 ∨ 2 ≤ r.pos - a.length := by omega
        · exact .inl hk'
        · exact .inr ⟨_, (Nat.sub_add_cancel hk').symm⟩
      · rw [hk'] at h
        obtain ⟨rfl, -⟩ := List.cons.inj h
        cases hm
      · rw [hk'] at h
        exact .of_drop hb h hm

/-! ## What a run does to the data -/

/-- MEASURE_P is at the first wait of its temperature cycle. -/
def HandedOver (t : State) : Prop := ∃ r, t.eng = some r ∧ r.cmd = .measureP ∧ r.pos = 28

/-- What a run of the microprogram of `c` can do to the store and to each data register, and where it then stands. -/
structure RunEffect (c : Command) (s t : State) : Prop where
  store : (t.cal = s.cal ∧ t.status.calv = s.status.calv) ∨
    (c = .readCal ∧ t.status.calv = true ∧ t.eng = none ∧ t.status.err = .none) := by simp
  t10 : t.t10 = s.t10 ∨ (t.eng = none ∧ t.status.err = .none ∧ (c = .measureT ∨ c = .calcT)) := by simp
  press : (t.p = s.p ∧ t.b5 = s.b5) ∨ (t.eng = none ∧ t.status.err = .none ∧ (c = .measureP ∨ c = .calcP)) := by simp
  ut : t.ut = s.ut ∨ (t.eng = none ∧ (c = .measureT ∨ c = .measureP)) := by simp
  up : t.up = s.up ∨ (c = .measureP ∧ HandedOver t) := by simp
  rxdata : t.rxdata = s.rxdata ∨ (c = .measureP ∧ HandedOver t) ∨
    (t.eng = none ∧ (c = .readBytes ∨ c = .readCal ∨ c = .measureT ∨ c = .measureP)) := by simp

theorem SameData.runEffect {s t : State} (h : SameData s t) (c : Command) : RunEffect c s t where
  store := .inl ⟨h.cal, h.calv⟩
  t10 := .inl h.t10
  press := .inl ⟨h.p, h.b5⟩
  ut := .inl h.ut
  up := .inl h.up
  rxdata := .inl h.rxdata

theorem SameData.trans_runEffect {c : Command} {s t u : State} (h : SameData s t) (k : RunEffect c t u) : RunEffect c s u where
  store := by rw [← h.cal, ← h.calv]; exact k.store
  t10 := by rw [← h.t10]; exact k.t10
  press := by rw [← h.p, ← h.b5]; exact k.press
  ut := by rw [← h.ut]; exact k.ut
  up := by rw [← h.up]; exact k.up
  rxdata := by rw [← h.rxdata]; exact k.rxdata

/-- T10 is written only when the command ends with success (10_state.md R56). -/
theorem runMicro_calcTemp (s : State) :
    (∃ v, runMicro [.calcTemp, .finish] s = done (advance { s with t10 := BitVec.ofInt 32 v })) ∨
    ∃ e, runMicro [.calcTemp, .finish] s = raise e s := by
  have ha := act_calcTemp s
  cases ht : temp s.cfg.tempArith s.cal s.ut.toNat with
  | ok v => exact .inl ⟨v, by rw [runMicro_of_act rfl (ha.trans (by rw [ht]; rfl)), runMicro_finish]⟩
  | error e => exact .inr ⟨e, by rw [runMicro_act rfl, ha, ht]; rfl⟩

/-- B5 and P are written only when the command ends with success (10_state.md R57, R58). -/
theorem runMicro_calcPress (s : State) :
    (∃ b q, runMicro [.calcPress, .finish] s = done (advance { s with b5 := BitVec.ofInt 32 b, p := BitVec.ofInt 32 q })) ∨
    ∃ e, runMicro [.calcPress, .finish] s = raise e s := by
  have ha := act_calcPress s
  cases hp : press s.cal s.up.toNat s.ut.toNat (engOss s).toNat with
  | ok r => exact .inl ⟨r.1, r.2, by rw [runMicro_of_act rfl (ha.trans (by rw [hp]; rfl)), runMicro_finish]⟩
  | error e => exact .inr ⟨e, by rw [runMicro_act rfl, ha, hp]; rfl⟩

/-- RXDATA and UT as the end of a temperature cycle leaves them. -/
def utStored (s : State) : State :=
  advance (advance { s with rxdata := writeBytes (localBytes s) 0 s.rxdata, ut := utOf (localBytes s) })

@[simp] theorem utStored_status (s : State) : (utStored s).status = s.status := rfl
@[simp] theorem utStored_up (s : State) : (utStored s).up = s.up := rfl
@[simp] theorem utStored_t10 (s : State) : (utStored s).t10 = s.t10 := rfl
@[simp] theorem utStored_p (s : State) : (utStored s).p = s.p := rfl
@[simp] theorem utStored_b5 (s : State) : (utStored s).b5 = s.b5 := rfl
@[simp] theorem utStored_cal (s : State) : (utStored s).cal = s.cal := rfl

theorem runMicro_storeUt (s : State) (rest : List Micro) :
    runMicro (.storeRx :: .storeUt :: rest) s = runMicro rest (utStored s) := by
  rw [runMicro_of_act rfl rfl, runMicro_of_act rfl rfl]
  cases he : s.eng <;> simp [utStored, localBytes, advance, he]

/-- RXDATA and UP as the end of a pressure cycle leaves them. -/
def upStored (s : State) : State :=
  advance (advance { s with rxdata := writeBytes (localBytes s) 0 s.rxdata, up := upOf (localBytes s) (engOss s) })

@[simp] theorem upStored_status (s : State) : (upStored s).status = s.status := rfl
@[simp] theorem upStored_ut (s : State) : (upStored s).ut = s.ut := rfl
@[simp] theorem upStored_t10 (s : State) : (upStored s).t10 = s.t10 := rfl
@[simp] theorem upStored_p (s : State) : (upStored s).p = s.p := rfl
@[simp] theorem upStored_b5 (s : State) : (upStored s).b5 = s.b5 := rfl
@[simp] theorem upStored_cal (s : State) : (upStored s).cal = s.cal := rfl

/-- The hand-over stores UP and RXDATA and stops at the first wait of the temperature cycle. -/
theorem runMicro_handOver {s : State} (hs : ResetHeld s) (rest : List Micro) :
    runMicro (handOver rest) s = advance (advance (writeRequested (upStored s))) := by
  have hstored : ResetHeld (upStored s) := hs
  have hup : runMicro (handOver rest) s = runMicro (.clearFlags :: .start true :: .wait .txifgSet :: rest) (upStored s) := by
    rw [handOver, runMicro_of_act rfl rfl, runMicro_of_act rfl rfl]
    cases he : s.eng <;> simp [upStored, localBytes, engOss, advance, he]
  rw [hup, runMicro_requestWrite hstored]

theorem sameData_done (s : State) : SameData s (done s) := {}

theorem controllerInitialised_sameData (s : State) : SameData s (controllerInitialised s) where
  trace := by
    simp only [controllerInitialised]
    split
    · exact ⟨[.abort], rfl⟩
    · exact ⟨[], (List.append_nil _).symm⟩

/-- Each final block writes what its command returns, and ends it. -/
theorem runMicro_finalBlock (c : Command) {s : State} (hs : ResetHeld s) : RunEffect c s (runMicro (finalBlock c) s) := by
  cases c <;> rw [finalBlock]
  case init =>
    have hinit : runMicro _ s = done (controllerInitialised s) := runMicro_init hs s.cfg s.arg 0#2
    rw [program] at hinit
    rw [hinit]
    exact ((controllerInitialised_sameData s).trans (sameData_done _)).runEffect _
  case writeReg =>
    rw [runMicro_finish]
    exact {}
  case readBytes =>
    rw [runMicro_of_act rfl rfl, runMicro_finish]
    exact {}
  case readCal =>
    rw [runMicro_of_act rfl rfl, runMicro_of_act rfl rfl, runMicro_finish]
    exact {}
  case measureT =>
    rw [runMicro_storeUt]
    obtain ⟨v, h⟩ | ⟨e, h⟩ := runMicro_calcTemp (utStored s) <;> rw [h]
    · exact {}
    · exact {}
  case measureP =>
    rw [runMicro_storeUt]
    obtain ⟨b, q, h⟩ | ⟨e, h⟩ := runMicro_calcPress (utStored s) <;> rw [h]
    · exact {}
    · exact {}
  case calcT =>
    obtain ⟨v, h⟩ | ⟨e, h⟩ := runMicro_calcTemp s <;> rw [h]
    · exact {}
    · exact {}
  case calcP =>
    obtain ⟨b, q, h⟩ | ⟨e, h⟩ := runMicro_calcPress s <;> rw [h]
    · exact {}
    · exact {}

@[simp] theorem writeRequested_eng (s : State) : (writeRequested s).eng = s.eng := rfl
@[simp] theorem writeRequested_status (s : State) : (writeRequested s).status = s.status := rfl
@[simp] theorem writeRequested_ut (s : State) : (writeRequested s).ut = s.ut := rfl
@[simp] theorem writeRequested_up (s : State) : (writeRequested s).up = s.up := rfl
@[simp] theorem writeRequested_t10 (s : State) : (writeRequested s).t10 = s.t10 := rfl
@[simp] theorem writeRequested_p (s : State) : (writeRequested s).p = s.p := rfl
@[simp] theorem writeRequested_b5 (s : State) : (writeRequested s).b5 = s.b5 := rfl
@[simp] theorem writeRequested_cal (s : State) : (writeRequested s).cal = s.cal := rfl
@[simp] theorem writeRequested_rxdata (s : State) : (writeRequested s).rxdata = s.rxdata := rfl

theorem handOver_effect {s : State} {r : Running} (hs : ResetHeld s) (he : s.eng = some r) (hc : r.cmd = .measureP)
    (hp : r.pos = 24) (rest : List Micro) : RunEffect .measureP s (runMicro (handOver rest) s) := by
  rw [runMicro_handOver hs]
  have heng : (advance (advance (writeRequested (upStored s)))).eng = some { r with pos := r.pos + 1 + 1 + 1 + 1 } := by
    simp [upStored, he]
  have hover : HandedOver (advance (advance (writeRequested (upStored s)))) := ⟨_, heng, hc, by simp [hp]⟩
  exact { up := .inr ⟨rfl, hover⟩, rxdata := .inr (.inl ⟨rfl, hover⟩) }

/-- What a run on course can do. -/
theorem OnCourse.runEffect {s : State} {r : Running} {l : List Micro} (h : OnCourse r.cmd r.pos l) (he : s.eng = some r)
    (hb : BusInv s) : RunEffect r.cmd s (runMicro l s) := by
  obtain ⟨a, ha, rfl⟩ | ⟨hc, a, rest, ha, rfl, hpos⟩ := h
  · obtain ⟨n, t, ht, hend | ⟨-, hend⟩⟩ := runMicro_transport a (finalBlock r.cmd) ha s <;> rw [hend]
    · exact ht.runEffect _
    · exact ht.trans_runEffect (runMicro_finalBlock _ (ht.busInv hb).resetHeld)
  · obtain ⟨n, t, ht, hend | ⟨rfl, hend⟩⟩ := runMicro_transport a (handOver rest) ha s <;> rw [hend]
    · exact ht.runEffect _
    · obtain ⟨d, hd⟩ := ht.eng
      rw [he] at hd
      rw [hc]
      exact ht.trans_runEffect (handOver_effect (ht.busInv hb).resetHeld hd hc hpos rest)

/-! ## What a step does to the data -/

/-- At issue only INIT, CALC_T and CALC_P run to the end; the others request a START and change no data (42_transport.md R180). -/
theorem issue_effect {s : State} {c : Command} {oss : BitVec 2} (hi : Inv s) (hb : s.status.busy = false)
    (hr : refusedAtIssue c s = none) : SameData s (issue (commandWord (opCode c) oss) c s) ∨
      ((c = .init ∨ c = .calcT ∨ c = .calcP) ∧ RunEffect c s (issue (commandWord (opCode c) oss) c s)) := by
  have hrun : RunEffect c s (issue (commandWord (opCode c) oss) c s) := by
    have hbus : BusInv (takeCommand (commandWord (opCode c) oss) c (acceptWord (commandWord (opCode c) oss) s)) :=
      { hi.busInv with }
    rw [issue_taken hb hr, resume_eq (remaining_takeCommand ..)]
    have hsame : SameData s (takeCommand (commandWord (opCode c) oss) c (acceptWord (commandWord (opCode c) oss) s)) := {}
    exact hsame.trans_runEffect ((program_onCourse s.cfg c s.arg oss).runEffect (r := ⟨c, s.arg, _, 0, []⟩) rfl hbus)
  cases c
  case init => exact .inr ⟨by simp, hrun⟩
  case calcT => exact .inr ⟨by simp, hrun⟩
  case calcP => exact .inr ⟨by simp, hrun⟩
  case writeReg | measureT | measureP => rw [issue_begun_write hi.resetHeld hb hr rfl]; exact .inl {}
  case readBytes | readCal => rw [issue_begun_read hi.resetHeld hb hr rfl]; exact .inl {}

/-- A running engine of the invariant is at a transfer or a wait, so it runs no command that ends at issue. -/
theorem Inv.at_transport {s : State} {r : Running} (hi : Inv s) (he : s.eng = some r) :
    ∃ m l, remaining s = m :: l ∧ m.isTransport = true := by
  have hw := hi.engineAtWait (by rw [he]; rfl)
  split at hw
  · exact ⟨_, _, ‹_›, rfl⟩
  · exact ⟨_, _, ‹_›, rfl⟩
  · exact hw.elim

theorem Inv.cmd_ne_calc {s : State} {r : Running} (hi : Inv s) (he : s.eng = some r) : r.cmd ≠ .calcT ∧ r.cmd ≠ .calcP := by
  obtain ⟨m, l, hr, hm⟩ := hi.at_transport he
  simp only [remaining, he] at hr
  have hmem : m ∈ program s.cfg r.cmd r.arg r.oss := List.mem_of_mem_drop (hr ▸ List.mem_cons_self)
  refine ⟨fun hc => ?_, fun hc => ?_⟩ <;> rw [hc] at hmem
  · simp [not_isTransport_of_mem_finalBlock (c := .calcT) m hmem] at hm
  · simp [not_isTransport_of_mem_finalBlock (c := .calcP) m hmem] at hm

/-- The four ways a step but block reset can treat the data: not at all, as the running command, as a command that ends at issue, or as
the host's store of a data register. -/
inductive DataEffect (m : Move) (s u : State) : Prop
  | same : SameData s u → DataEffect m s u
  | running {r : Running} : s.eng = some r → r.cmd ≠ .calcT → r.cmd ≠ .calcP → RunEffect r.cmd s u → DataEffect m s u
  | atIssue {c : Command} {oss : BitVec 2} : c = .init ∨ c = .calcT ∨ c = .calcP →
      m = .access (.write 2 offCmd (commandWord (opCode c) oss)) → RunEffect c s u → DataEffect m s u
  | stored {off : BitVec 7} {v : Word} : s.status.busy = false → m = .access (.write 2 off v) → u = storeData off v s →
      DataEffect m s u

/-- A run resumed from a state that has the data of `s` and stands on course. -/
theorem dataEffect_resume {m : Move} {s t : State} {r r' : Running} (hi : Inv s) (he : s.eng = some r) (ht : SameData s t)
    (het : t.eng = some r') (hcmd : r'.cmd = r.cmd) (hb : BusInv t) (hc : OnCourse r'.cmd r'.pos (remaining t)) :
    DataEffect m s (resume t) := by
  obtain ⟨hT, hP⟩ := hi.cmd_ne_calc he
  refine .running he hT hP (ht.trans_runEffect ?_)
  rw [← hcmd]
  exact hc.runEffect het hb

theorem Effect.dataEffect {m : Move} {s u : State} (h : Effect m s u) (hi : Inv s) (hm : m ≠ .blockReset) : DataEffect m s u := by
  cases h with
  | nothing => exact .same {}
  | read v take _ => cases take <;> exact .same {}
  | overrun _ => exact .same {}
  | register _ hs => exact .same hs.toSameData
  | data hb hacc => exact .stored hb hacc rfl
  | refused w e _ => exact .same {}
  | taken hb hacc hr =>
    obtain h | ⟨hc, h⟩ := issue_effect hi hb hr
    · exact .same h
    · exact .atIssue hc hacc h
  | @bus t _ hs hbus =>
    cases he : s.eng with
    | none =>
      rw [resume_idle (hs.eng.trans he)]
      exact .same hs.toSameData
    | some r =>
      obtain ⟨x, l, hr, hx⟩ := hi.at_transport he
      have hrem : remaining t = x :: l := (remaining_congr hs.eng hs.cfg).trans hr
      exact dataEffect_resume hi he hs.toSameData (hs.eng.trans he) rfl (hbus hi.busInv) (hrem ▸ remaining_onCourse he hr hx)
  | @conv n rest hr =>
    cases he : s.eng with
    | none => simp [remaining_idle he] at hr
    | some r =>
      have hbus : BusInv (advance (s.log (.convWait n))) := { hi.busInv.convWait n with }
      have hrem : remaining (advance (s.log (.convWait n))) = rest := remaining_advance (s := s.log (.convWait n)) hr
      have hcourse := (remaining_onCourse he hr rfl).tail rfl
      exact dataEffect_resume hi he { trace := ⟨[.convWait n], rfl⟩ } (r' := { r with pos := r.pos + 1 }) (by simp [he]) rfl hbus
        (by rw [hrem]; exact hcourse)
  | timeout _ =>
    refine .same ?_
    unfold timeoutEffect
    dsimp only
    split
    · exact { (BusSide.requestStop (s.setTxstt false)).toSameData with }
    · exact {}
  | reset hreset => exact absurd hreset hm

/-- The store of a host write changes ARG, UT or one half of UP, or nothing (20_memory.md R82, R85). -/
theorem storeData_cases (off : BitVec 7) (v : Word) (s : State) :
    SameData s (storeData off v s) ∨ (off = 0x14#7 ∧ storeData off v s = { s with ut := v }) ∨
    (off = 0x16#7 ∧ ∃ x, storeData off v s = { s with up := x } ∧ lo x = v ∧ hi x = hi s.up) ∨
    (off = 0x18#7 ∧ ∃ x, storeData off v s = { s with up := x } ∧ hi x = v ∧ lo x = lo s.up) := by
  unfold storeData
  dsimp only
  split_ifs with harg hut hlo hhi
  · exact .inl {}
  · exact .inr (.inl ⟨BitVec.eq_of_toNat_eq hut, rfl⟩)
  · exact .inr (.inr (.inl ⟨BitVec.eq_of_toNat_eq hlo, _, rfl, lo_append _ v, hi_append _ v⟩))
  · exact .inr (.inr (.inr ⟨BitVec.eq_of_toNat_eq hhi, _, rfl, hi_append v _, lo_append v _⟩))
  · exact .inl {}

/-- Settles O6: of all that can happen to the data, only READ_CAL and block reset reach the store. -/
theorem storeChangesOnlyByReadCalOrReset : Obligations.StoreChangesOnlyByReadCalOrReset := by
  intro s t hinv h
  obtain ⟨u, l, hu, rfl⟩ := step_effect h
  by_cases hm : s.agenda.headD .auto = .blockReset
  · exact .inr (.inr (head_of_headD hm (by simp)))
  · cases hu.dataEffect { hinv with } hm with
    | same hs => exact .inl ⟨hs.cal, hs.calv⟩
    | @running r he _ _ hrun => exact hrun.store.imp_right fun ⟨hc, hend⟩ => .inl ⟨⟨r, he, hc⟩, hend⟩
    | @atIssue c _ hc _ hrun =>
      refine .inl (hrun.store.resolve_right fun ⟨hcal, _⟩ => ?_)
      simp [hcal] at hc
    | stored _ _ hstore =>
      subst hstore
      refine .inl ?_
      obtain hs | ⟨-, e⟩ | ⟨-, x, e, -⟩ | ⟨-, x, e, -⟩ := storeData_cases _ _ { s with agenda := s.agenda.tail }
      · exact ⟨hs.cal, hs.calv⟩
      all_goals rw [e]; exact ⟨rfl, rfl⟩

/-- Settles O7, register by register from the four ways a step can treat the data. -/
theorem outputsChangeOnlyByTheirCommands : Obligations.OutputsChangeOnlyByTheirCommands := by
  intro s t hinv h hreset running writes handsOver
  have hm : s.agenda.headD .auto ≠ .blockReset := fun hm => by
    obtain ⟨rest, hr⟩ := head_of_headD hm (by simp)
    exact hreset rest hr
  have hwrites : ∀ {off v}, s.agenda.headD .auto = .access (.write 2 off v) → writes off v := fun hm => head_of_headD hm (by simp)
  obtain ⟨u, l, hu, rfl⟩ := step_effect h
  cases hu.dataEffect { hinv with } hm with
  | same hs => exact ⟨.inl hs.t10, .inl ⟨hs.p, hs.b5⟩, .inl hs.ut, .inl hs.up, .inl hs.rxdata⟩
  | @running r he hT hP hrun =>
    have hrunning : ∀ {c}, r.cmd = c → running c := fun hc => ⟨r, he, hc⟩
    refine ⟨hrun.t10.imp_right ?_, hrun.press.imp_right ?_, hrun.ut.imp_right ?_, hrun.up.imp_right ?_, hrun.rxdata.imp_right ?_⟩
    · exact fun ⟨hend, herr, hc⟩ => ⟨hend, herr, .inl (hrunning (hc.resolve_right hT))⟩
    · exact fun ⟨hend, herr, hc⟩ => ⟨hend, herr, .inl (hrunning (hc.resolve_right hP))⟩
    · exact fun ⟨hend, hc⟩ => .inl ⟨hend, hc.imp hrunning hrunning⟩
    · exact fun ⟨hc, hover⟩ => .inl ⟨hrunning hc, hover⟩
    · exact Or.imp (fun ⟨hc, hover⟩ => ⟨hrunning hc, hover⟩)
        fun ⟨hend, hc⟩ => ⟨hend, hc.imp hrunning (Or.imp hrunning (Or.imp hrunning hrunning))⟩
  | @atIssue c oss hc hacc hrun =>
    refine ⟨hrun.t10.imp_right ?_, hrun.press.imp_right ?_, .inl (hrun.ut.resolve_right ?_), .inl (hrun.up.resolve_right ?_),
      .inl (hrun.rxdata.resolve_right ?_)⟩
    · rintro ⟨hend, herr, rfl | rfl⟩
      · simp at hc
      · exact ⟨hend, herr, .inr ⟨oss, hwrites hacc⟩⟩
    · rintro ⟨hend, herr, rfl | rfl⟩
      · simp at hc
      · exact ⟨hend, herr, .inr ⟨oss, hwrites hacc⟩⟩
    all_goals obtain rfl | rfl | rfl := hc <;> simp
  | @stored off v hb hacc hstore =>
    subst hstore
    obtain hs | ⟨rfl, e⟩ | ⟨rfl, x, e, rfl, hx⟩ | ⟨rfl, x, e, rfl, hx⟩ := storeData_cases off v { s with agenda := s.agenda.tail }
    · exact ⟨.inl hs.t10, .inl ⟨hs.p, hs.b5⟩, .inl hs.ut, .inl hs.up, .inl hs.rxdata⟩
    all_goals rw [e]
    · exact ⟨.inl rfl, .inl ⟨rfl, rfl⟩, .inr (.inr ⟨hb, hwrites hacc⟩), .inl rfl, .inl rfl⟩
    · exact ⟨.inl rfl, .inl ⟨rfl, rfl⟩, .inl rfl, .inr (.inr (.inl ⟨hb, hwrites hacc, hx⟩)), .inl rfl⟩
    · exact ⟨.inl rfl, .inl ⟨rfl, rfl⟩, .inl rfl, .inr (.inr (.inr ⟨hb, hwrites hacc, hx⟩)), .inl rfl⟩

end Sys2Proof.Machine
end

section
/-! Proofs. O54 to O59: the pipeline. A stage answers a value only when each check before it does; the REAL temperature is one floor
division; the BINARY modes round to nearest even. -/

namespace Sys2Proof.Machine

/-! ## Stages as chains of checks (45_pipeline.md R241) -/

theorem chk32_eq_ok {x y : Int} : chk32 x = .ok y ↔ x = y ∧ -2147483648 ≤ x ∧ x ≤ 2147483647 := by
  unfold chk32
  split
  · rename_i h; simp [h]
  · rename_i h; simp [h]

theorem chk32_of_range {x : Int} (h : -2147483648 ≤ x ∧ x ≤ 2147483647) : chk32 x = .ok x := if_pos h

/-- A chain answers a value when its first stage does and the rest does with that stage's value. -/
theorem bind_eq_ok {α β : Type} {x : Except Err α} {f : α → Except Err β} {y : β} :
    x >>= f = .ok y ↔ ∃ a, x = .ok a ∧ f a = .ok y := by
  cases x with
  | error e =>
    have h : (Except.error e >>= f) = .error e := rfl
    simp [h]
  | ok a =>
    have h : (Except.ok a >>= f) = f a := rfl
    simp [h]

theorem bind_of_ok {α β : Type} {x : Except Err α} {a : α} (h : x = .ok a) (f : α → Except Err β) : x >>= f = f a := by
  rw [h]
  rfl

/-- A chain whose rest never answers a value answers an error. -/
theorem bind_error_of_forall {α β : Type} {f : α → Except Err β} (h : ∀ a, ∃ e, f a = .error e) (x : Except Err α) :
    ∃ e, x >>= f = .error e := by
  cases x with
  | error e => exact ⟨e, rfl⟩
  | ok a => exact h a

/-- The value of PRESS is the B5 of its first stage, which stage P1 has checked, and the result of its last. -/
theorem press_eq_ok {c : Cal} {up ut : Int} {oss : Nat} {b q : Int} (h : press c up ut oss = .ok (b, q)) :
    b5int c ut = .ok b ∧ (∃ r, stageP1 b = .ok r) ∧ ∃ p0, stageP5 p0 = .ok q := by
  unfold press at h
  obtain ⟨b5, hb5, h⟩ := bind_eq_ok.mp h
  obtain ⟨r, hr, h⟩ := bind_eq_ok.mp h
  obtain ⟨b3, -, h⟩ := bind_eq_ok.mp h
  obtain ⟨b4, -, h⟩ := bind_eq_ok.mp h
  obtain ⟨p0, -, h⟩ := bind_eq_ok.mp h
  obtain ⟨p, hp, h⟩ := bind_eq_ok.mp h
  cases h
  exact ⟨hb5, ⟨r, hr⟩, p0, hp⟩

theorem press_error_of_b5int {c : Cal} {ut : Int} {e : Err} (h : b5int c ut = .error e) (up : Int) (oss : Nat) :
    press c up ut oss = .error e := by
  rw [press, h]
  rfl

/-! ## Results fit their registers -/

/-- The result of a last check is a signed 32-bit number, which its pattern gives back. -/
theorem toInt_of_chk32 {x v : Int} (h : chk32 x = .ok v) : (BitVec.ofInt 32 v).toInt = v := by
  obtain ⟨rfl, hlo, hhi⟩ := chk32_eq_ok.mp h
  exact BitVec.toInt_ofInt_eq_self (by decide) (by simpa using hlo) (by simp; omega)

/-- Every arithmetic of TEMP ends with a check of its result (45_pipeline.md R243). -/
theorem temp_eq_ok {m : TempArith} {c : Cal} {ut v : Int} (h : temp m c ut = .ok v) : ∃ x, chk32 x = .ok v := by
  cases m
  case real =>
    simp only [temp, tempReal] at h
    split at h
    · cases h
    · exact ⟨_, h⟩
  case int =>
    obtain ⟨b, -, h⟩ := bind_eq_ok.mp h
    obtain ⟨n, -, h⟩ := bind_eq_ok.mp h
    exact ⟨_, h⟩
  case binary32 | binary64 =>
    simp only [temp, tempBinary] at h
    split at h
    · cases h
    · exact ⟨_, h⟩

theorem b5int_eq_ok {c : Cal} {ut b : Int} (h : b5int c ut = .ok b) : ∃ x, chk32 x = .ok b := by
  unfold b5int at h
  obtain ⟨_, -, h⟩ := bind_eq_ok.mp h
  obtain ⟨_, -, h⟩ := bind_eq_ok.mp h
  obtain ⟨_, -, h⟩ := bind_eq_ok.mp h
  obtain ⟨_, -, h⟩ := bind_eq_ok.mp h
  obtain ⟨_, -, h⟩ := bind_eq_ok.mp h
  exact ⟨_, h⟩

theorem stageP5_eq_ok {p0 q : Int} (h : stageP5 p0 = .ok q) : ∃ x, chk32 x = .ok q := by
  unfold stageP5 at h
  obtain ⟨_, -, h⟩ := bind_eq_ok.mp h
  obtain ⟨_, -, h⟩ := bind_eq_ok.mp h
  obtain ⟨_, -, h⟩ := bind_eq_ok.mp h
  obtain ⟨_, -, h⟩ := bind_eq_ok.mp h
  obtain ⟨_, -, h⟩ := bind_eq_ok.mp h
  exact ⟨_, h⟩

/-- Settles O59: the last step of TEMP, of B5INT and of PRESS is a check of the range. -/
theorem resultsFitTheirRegisters : Obligations.ResultsFitTheirRegisters := by
  refine ⟨fun m c ut v h => ?_, fun c up ut oss b q h => ?_⟩
  · obtain ⟨x, hx⟩ := temp_eq_ok h
    exact toInt_of_chk32 hx
  · obtain ⟨hb5, -, p0, hp⟩ := press_eq_ok h
    obtain ⟨x, hx⟩ := b5int_eq_ok hb5
    obtain ⟨y, hy⟩ := stageP5_eq_ok hp
    exact ⟨toInt_of_chk32 hx, toInt_of_chk32 hy⟩

/-! ## One B5 for both integer paths -/

/-- P1 bounds B5: its square must be a 32-bit number. -/
theorem b5_range_of_stageP1 {b : Int} {r : Int × Int} (h : stageP1 b = .ok r) : -46340 ≤ b - 4000 ∧ b - 4000 ≤ 46340 := by
  unfold stageP1 at h
  obtain ⟨b6, hb6, h⟩ := bind_eq_ok.mp h
  obtain ⟨q, hq, -⟩ := bind_eq_ok.mp h
  obtain ⟨rfl, -, -⟩ := chk32_eq_ok.mp hb6
  obtain ⟨-, -, hsq⟩ := chk32_eq_ok.mp hq
  constructor <;> nlinarith

theorem tempInt_of_b5int {c : Cal} {ut b : Int} (hb : b5int c ut = .ok b) (hrange : -46340 ≤ b - 4000 ∧ b - 4000 ≤ 46340) :
    temp .int c ut = .ok (Int.fdiv (b + 8) 16) := by
  have hdiv : fdivC (b + 8) 4 = Int.fdiv (b + 8) 16 := rfl
  have hediv : Int.fdiv (b + 8) 16 = (b + 8) / 16 := Int.fdiv_eq_ediv_of_nonneg _ (by decide)
  refine bind_eq_ok.mpr ⟨b, hb, bind_eq_ok.mpr ⟨b + 8, chk32_of_range (by omega), ?_⟩⟩
  rw [hdiv, hediv]
  exact chk32_of_range (by omega)

theorem tempInt_error_of_b5int {c : Cal} {ut : Int} {e : Err} (h : b5int c ut = .error e) : temp .int c ut = .error e := by
  rw [temp, tempInt, h]
  rfl

/-- Settles O56: both paths begin with B5INT, and P1 leaves B5 + 8 in range. -/
theorem integerPathsAgreeOnB5 : Obligations.IntegerPathsAgreeOnB5 := by
  refine ⟨fun c up ut oss b q h => ?_, fun c up ut oss e h => ⟨press_error_of_b5int h up oss, tempInt_error_of_b5int h⟩⟩
  obtain ⟨hb5, ⟨r, hr⟩, -⟩ := press_eq_ok h
  exact ⟨hb5, tempInt_of_b5int hb5 (b5_range_of_stageP1 hr)⟩

/-! ## Divisors that are 0 -/

/-- With AC4 = 0, B4 is 0 whenever P3 comes to it (45_pipeline.md R247). -/
theorem stageP3_error_of_ac4 {c : Cal} (h : ac4 c = 0) (b6 s : Int) : ∃ e, stageP3 c b6 s = .error e := by
  unfold stageP3
  refine bind_error_of_forall (fun y1 => bind_error_of_forall (fun y2 => bind_error_of_forall (fun y3 =>
    bind_error_of_forall (fun y4 => ⟨.divZero, ?_⟩) _) _) _) _
  simp only [h, zero_mul]
  rfl

theorem press_error_of_ac4 {c : Cal} (h : ac4 c = 0) (up ut : Int) (oss : Nat) : ∃ e, press c up ut oss = .error e := by
  unfold press
  refine bind_error_of_forall (fun b5 => bind_error_of_forall (fun r => bind_error_of_forall (fun b3 => ?_) _) _) _
  obtain ⟨e, he⟩ := stageP3_error_of_ac4 h r.1 r.2
  exact ⟨e, by simp only [he]; rfl⟩

theorem fl_zero (prec : Nat) : fl prec 0 = 0 := if_pos rfl

/-- The blank store (43_calibration_store.md R214). -/
def blankStore : Cal := Vector.replicate 11 0#16

theorem b5int_blank (ut : Word) : b5int blankStore (ut.toNat : Int) = .error .divZero := by
  have hut : chk32 ((ut.toNat : Int) - ac6 blankStore) = .ok (ut.toNat : Int) := by
    rw [show ac6 blankStore = 0 from rfl, Int.sub_zero]
    exact chk32_of_range (by omega)
  have hn : chk32 ((ut.toNat : Int) * ac5 blankStore) = .ok 0 := by
    rw [show ac5 blankStore = 0 from rfl, Int.mul_zero]
    rfl
  rw [b5int, bind_of_ok hut, bind_of_ok hn]
  rfl

theorem tempReal_blank (ut : Int) : tempReal blankStore ut = .error .divZero := by
  have h5 : ac5 blankStore = 0 := rfl
  have hmd : md blankStore = 0 := rfl
  simp [tempReal, h5, hmd]

theorem tempBinary_blank (prec : Nat) (ut : Int) : tempBinary prec blankStore ut = .error .divZero := by
  have h5 : ac5 blankStore = 0 := rfl
  have hmd : md blankStore = 0 := rfl
  simp [tempBinary, h5, hmd, fl_zero]

/-- Settles O58: with the blank store X1 + MD is 0 in every arithmetic, and with AC4 = 0 the divisor B4 is. -/
theorem zeroDivisorsAreReported : Obligations.ZeroDivisorsAreReported := by
  refine ⟨fun m ut => ?_, fun up ut oss => press_error_of_b5int (b5int_blank ut) up oss, fun c up ut oss h => ?_⟩
  · cases m
    case real => exact tempReal_blank _
    case binary32 => exact tempBinary_blank 24 _
    case binary64 => exact tempBinary_blank 53 _
    case int => exact tempInt_error_of_b5int (b5int_blank ut)
  · have h4 : ac4 c = 0 := by
      have hcoef : coef c 3 = 0#16 := h
      rw [ac4, hcoef]
      rfl
    exact press_error_of_ac4 h4 up ut oss

/-! ## The REAL temperature -/

/-- Floor division of integers is the floor of the rational quotient (00_scope.md R9). -/
theorem floor_div_eq_fdiv (a : Int) {b : Int} (hb : b ≠ 0) : ((a : Rat) / b).floor = Int.fdiv a b := by
  have hpos : ∀ (x : Int) (k : Nat), ((x : Rat) / ((k : Int) : Rat)).floor = Int.fdiv x k := fun x k => by
    rw [Int.fdiv_eq_ediv_of_nonneg _ (Int.natCast_nonneg k), Int.cast_natCast]
    exact Rat.floor_intCast_div_natCast x k
  obtain ⟨k, rfl | rfl⟩ := Int.eq_nat_or_neg b
  · exact hpos a k
  · rw [← Int.neg_fdiv_neg a (-k), Int.neg_neg, ← hpos (-a) k]
    congr 1
    push_cast
    rw [div_neg, neg_div]

/-- Settles O54: with the denominators cleared the formula is one quotient of integers. -/
theorem realTemperatureIsOneFloorDivision : Obligations.RealTemperatureIsOneFloorDivision := by
  intro c ut n e
  have hd : ((n : Rat) / 32768 + (md c : Int)) = (e : Rat) / 32768 := by
    simp only [e]
    push_cast
    ring
  rw [temp, tempReal]
  simp only
  rw [show ((ut - ac6 c) * ac5 c : Int) = n from rfl, hd]
  by_cases he : e = 0
  · simp [he]
  · have he' : (e : Rat) ≠ 0 := by exact_mod_cast he
    have hne : ¬ ((e : Rat) / 32768 = 0) := by simpa using he
    rw [if_neg hne, if_neg he, ← floor_div_eq_fdiv _ (by omega)]
    congr 2
    push_cast
    field_simp
    ring

/-! ## Rounding to nearest even -/

theorem twoPow_eq_zpow (e : Int) : twoPow e = (2 : Rat) ^ e := by
  unfold twoPow
  split
  · rename_i h
    obtain ⟨k, rfl⟩ := Int.eq_ofNat_of_zero_le h
    simp
  · rename_i h
    obtain ⟨k, hk⟩ := Int.eq_ofNat_of_zero_le (a := -e) (by omega)
    obtain rfl : e = -(k : Int) := by omega
    simp

/-- The leading exponent brackets the magnitude of a nonzero rational. -/
theorem leadExp_bracket {x : Rat} (hx : x ≠ 0) : (2 : Rat) ^ leadExp x ≤ |x| ∧ |x| < (2 : Rat) ^ (leadExp x + 1) := by
  set a := x.num.natAbs.log2 with ha
  set b := x.den.log2 with hb
  have hnum : x.num.natAbs ≠ 0 := by simpa using hx
  have habs : |x| = (x.num.natAbs : Rat) / x.den := by
    conv_lhs => rw [← Rat.num_div_den x]
    rw [abs_div, Nat.abs_cast, Nat.cast_natAbs, Int.cast_abs]
  have hden : (0 : Rat) < x.den := by exact_mod_cast x.den_pos
  have hn1 : (2 : Rat) ^ (a : Int) ≤ x.num.natAbs := by exact_mod_cast Nat.log2_self_le hnum
  have hn2 : (x.num.natAbs : Rat) < 2 ^ ((a : Int) + 1) := by exact_mod_cast Nat.lt_log2_self
  have hd1 : (2 : Rat) ^ (b : Int) ≤ x.den := by exact_mod_cast Nat.log2_self_le x.den_nz
  have hd2 : (x.den : Rat) < 2 ^ ((b : Int) + 1) := by exact_mod_cast Nat.lt_log2_self
  have hlow : (2 : Rat) ^ ((a : Int) - b - 1) ≤ |x| := by
    rw [habs, le_div_iff₀ hden]
    calc (2 : Rat) ^ ((a : Int) - b - 1) * x.den ≤ 2 ^ ((a : Int) - b - 1) * 2 ^ ((b : Int) + 1) := by gcongr
      _ = 2 ^ (a : Int) := by rw [← zpow_add₀ two_ne_zero]; congr 1; ring
      _ ≤ x.num.natAbs := hn1
  have hhigh : |x| < (2 : Rat) ^ ((a : Int) - b + 1) := by
    rw [habs, div_lt_iff₀ hden]
    calc (x.num.natAbs : Rat) < 2 ^ ((a : Int) + 1) := hn2
      _ = 2 ^ ((a : Int) - b + 1) * 2 ^ (b : Int) := by rw [← zpow_add₀ two_ne_zero]; congr 1; ring
      _ ≤ 2 ^ ((a : Int) - b + 1) * x.den := by gcongr
  unfold leadExp
  simp only [twoPow_eq_zpow, ← ha, ← hb]
  split
  · rename_i h
    exact ⟨h, hhigh⟩
  · rename_i h
    rw [Int.sub_add_cancel]
    exact ⟨hlow, not_le.mp h⟩

/-- The nearest integer is the floor or the next, within a half, and even at a tie. -/
theorem roundHalfEven_spec (y : Rat) :
    (roundHalfEven y = ⌊y⌋ ∨ roundHalfEven y = ⌊y⌋ + 1) ∧ 2 * |(roundHalfEven y : Rat) - y| ≤ 1 ∧
    (2 * |(roundHalfEven y : Rat) - y| = 1 → roundHalfEven y % 2 = 0) := by
  have hlo : (⌊y⌋ : Rat) ≤ y := Int.floor_le y
  have hhi : y < ⌊y⌋ + 1 := Int.lt_floor_add_one y
  have hdown : |(⌊y⌋ : Rat) - y| = y - ⌊y⌋ := by rw [abs_sub_comm, abs_of_nonneg (by linarith)]
  have hup : |((⌊y⌋ + 1 : Int) : Rat) - y| = ⌊y⌋ + 1 - y := by push_cast; rw [abs_of_nonneg (by linarith)]
  have hfloor : y.floor = ⌊y⌋ := rfl
  unfold roundHalfEven
  simp only [hfloor]
  split_ifs with h1 h2 h3
  · exact ⟨.inl rfl, by rw [hdown]; linarith, fun h => by rw [hdown] at h; linarith⟩
  · exact ⟨.inr rfl, by rw [hup]; linarith, fun h => by rw [hup] at h; linarith⟩
  · exact ⟨.inl rfl, by rw [hdown]; linarith, fun _ => h3⟩
  · exact ⟨.inr rfl, by rw [hup]; linarith, fun _ => by omega⟩

theorem natAbs_roundHalfEven_le {y : Rat} {n : Nat} (h : |y| < n) : (roundHalfEven y).natAbs ≤ n := by
  obtain ⟨hneg, hpos⟩ := abs_lt.mp h
  have hlo : -(n : Int) ≤ ⌊y⌋ := Int.le_floor.mpr (by push_cast; exact hneg.le)
  have hhi : ⌊y⌋ < (n : Int) := Int.floor_lt.mpr (by exact_mod_cast hpos)
  obtain ⟨hm | hm, -⟩ := roundHalfEven_spec y <;> omega

/-- Settles O55, by scaling to the unit in the last place and rounding there. -/
theorem floatRoundingIsNearestEven : Obligations.FloatRoundingIsNearestEven := by
  intro prec x _ hx
  obtain ⟨hlow, hhigh⟩ := leadExp_bracket hx
  set q := twoPow (leadExp x - prec + 1) with hq
  have hqpos : 0 < q := by rw [hq, twoPow_eq_zpow]; positivity
  have hfl : fl prec x = roundHalfEven (x / q) * q := if_neg hx
  have hscale : ∀ m : Rat, 2 * |m * q - x| = 2 * |m - x / q| * q := fun m => by
    rw [show m * q - x = (m - x / q) * q by field_simp, abs_mul, abs_of_pos hqpos, mul_assoc]
  obtain ⟨-, hnear, htie⟩ := roundHalfEven_spec (x / q)
  rw [twoPow_eq_zpow, twoPow_eq_zpow]
  refine ⟨hlow, hhigh, roundHalfEven (x / q), hfl, natAbs_roundHalfEven_le ?_, ?_, fun h => htie ?_⟩
  · rw [abs_div, abs_of_pos hqpos, div_lt_iff₀ hqpos, hq, twoPow_eq_zpow]
    refine hhigh.trans_eq ?_
    push_cast
    rw [← zpow_natCast, ← zpow_add₀ two_ne_zero]
    congr 1
    ring
  · rw [hfl, hscale]
    exact mul_le_of_le_one_left hqpos.le hnear
  · rw [hfl, hscale] at h
    exact (mul_eq_right₀ hqpos.ne').mp h

/-! ## The worked examples -/

/-- Settles O57: the kernel evaluates the two examples of the source. -/
theorem workedExamples : Obligations.WorkedExamples := by
  refine ⟨fun m => ?_, by decide +kernel⟩
  cases m <;> decide +kernel

end Sys2Proof.Machine
end

section
/-! Proofs. The transfers of WR and RD byte by byte: what each bus step does while the engine waits for it (42_transport.md R184, R186). -/

namespace Sys2Proof.Machine

/-! ## Runs of several steps -/

theorem run_succ {s t : State} (h : step s = .next t) (k : Nat) : Sys2Proof.core.run (k + 1) s = Sys2Proof.core.run k t := by
  have hcore : Sys2Proof.core.step s = .next t := h
  simp only [Host.Core.run, hcore]

theorem run_one {s t : State} (h : step s = .next t) : Sys2Proof.core.run 1 s = .next t := run_succ h 0

theorem run_trans {j k : Nat} {s t u : State} (h : Sys2Proof.core.run j s = .next t) (i : Sys2Proof.core.run k t = .next u) :
    Sys2Proof.core.run (j + k) s = .next u := by
  induction j generalizing s with
  | zero =>
    cases h
    rw [Nat.zero_add, i]
  | succ j ih =>
    obtain ⟨s', hs⟩ : ∃ s', step s = .next s' := by
      cases hs : step s with
      | next s' => exact ⟨s', rfl⟩
      | fault r => cases r
      | refused r =>
        have hcore : Sys2Proof.core.step s = .refused r := hs
        simp [Host.Core.run, hcore] at h
    rw [run_succ hs] at h
    rw [Nat.add_right_comm, run_succ hs, ih h]

/-! ## The bus steps that no move forestalls -/

section
variable {s : State} (ha : s.agenda = [])
include ha

theorem step_bus (h : busEnabled s = true) : step s = busStep s := by
  rw [step_auto ha, autoStep, if_pos h]

/-- P-START, acknowledged: the master writes or reads as TR says (41_bus_controller.md R151). -/
theorem step_start {acks : List Bool} (htt : s.ctl.txstt = true) (hconf : s.configured = true) (htp : s.ctl.txstp = false)
    (hp : s.phase = .idle ∨ s.phase = .hold ∨ (s.phase = .tx ∧ s.txpending = false)) (hack : s.peer.acks = true :: acks) :
    step s = .next (resume { s with
      peer := { s.peer with acks := acks }
      trace := s.trace ++ [if s.phase = .idle then .start else .restart, .addr s.i2csa (!s.ctl.tr) true]
      ctl := { s.ctl with txstt := false }
      phase := if s.ctl.tr then .tx else .rx
      ifg := { s.ifg with txifg := s.ctl.tr && !s.txpending } }) := by
  have h : startEnabled s = true := (startEnabled_iff s).mpr ⟨htt, hconf, htp, hp⟩
  rw [step_bus ha ((busEnabled_iff s).mpr (.inl h)), busStep_start h, pStart_eq, drawAck_prepared hack]
  simp

/-- P-TX, acknowledged (41_bus_controller.md R152). -/
theorem step_tx {acks : List Bool} (hp : s.phase = .tx) (hq : s.txpending = true) (hack : s.peer.acks = true :: acks) :
    step s = .next (resume { s with
      peer := { s.peer with acks := acks }
      trace := s.trace ++ [.tx s.i2ctxbuf true]
      txpending := false
      ifg := { s.ifg with txifg := true } }) := by
  have h : txEnabled s = true := (txEnabled_iff s).mpr ⟨hp, hq⟩
  rw [step_bus ha ((busEnabled_iff s).mpr (.inr (.inl h))), busStep_tx h, pTx_eq, drawAck_prepared hack]
  simp

/-- P-RX with no START pending: the byte before a STOP is not acknowledged (41_bus_controller.md R153). -/
theorem step_rx {b : Byte} {bytes : List Byte} (hp : s.phase = .rx) (hr : s.ifg.rxifg = false) (htt : s.ctl.txstt = false)
    (hb : s.peer.bytes = b :: bytes) :
    step s = .next (resume { s with
      peer := { s.peer with bytes := bytes }
      i2crxbuf := b
      ifg := { s.ifg with rxifg := true }
      trace := s.trace ++ [.rx b (!s.ctl.txstp)] ++ (if s.ctl.txstp then [.stop] else [])
      ctl := { s.ctl with txstp := false }
      phase := if s.ctl.txstp then .idle else .rx }) := by
  have h : rxEnabled s = true := (rxEnabled_iff s).mpr ⟨hp, hr⟩
  rw [step_bus ha ((busEnabled_iff s).mpr (.inr (.inr (.inl h)))), busStep_rx h, pRx_eq, drawByte_prepared hb]
  simp [htt, hp]

/-- P-STOP after the last byte sent (41_bus_controller.md R154). -/
theorem step_stop (htp : s.ctl.txstp = true) (hp : s.phase = .tx) (hq : s.txpending = false) :
    step s = .next (resume { s with
      trace := s.trace ++ [.stop]
      ctl := { s.ctl with txstp := false }
      phase := .idle
      ifg := { s.ifg with txifg := false } }) := by
  have h : stopEnabled s = true := (stopEnabled_iff s).mpr ⟨htp, .inr ⟨hp, hq⟩⟩
  rw [step_bus ha ((busEnabled_iff s).mpr (.inr (.inr (.inr h)))), busStep_stop h]
  rfl

end

/-! ## The engine between two bus steps -/

/-- The block is on its own, SWRST is 0 and the running engine has `l` left. -/
structure Waiting (s : State) (r : Running) (l : List Micro) : Prop where
  agenda : s.agenda = []
  eng : s.eng = some r
  awake : s.ctl.swrst = false
  left : remaining s = l

namespace Waiting
variable {s t : State} {r : Running} {l rest : List Micro}

/-- The engine has passed `n` items. -/
theorem moved (h : Waiting s r l) (n : Nat) (d : List Byte) (ha : t.agenda = s.agenda)
    (he : t.eng = some { r with pos := r.pos + n, bytes := d }) (hr : t.ctl.swrst = s.ctl.swrst) (hc : t.cfg = s.cfg)
    (hl : l.drop n = rest) : Waiting t { r with pos := r.pos + n, bytes := d } rest where
  agenda := ha.trans h.agenda
  eng := he
  awake := hr.trans h.awake
  left := by
    have hs := h.left
    simp only [remaining, h.eng] at hs
    rw [← hl, ← hs]
    simp [remaining, he, hc]

/-- A bus step that fulfils the wait. -/
theorem step_passed {c : FlagWait} (h : Waiting s r (.wait c :: l)) (hs : step s = .next (resume t)) (he : t.eng = s.eng)
    (hc : t.cfg = s.cfg) (hw : c.holds t = true) : step s = .next (runMicro l (advance t)) := by
  rw [hs, resume_eq ((remaining_congr he hc).trans h.left), runMicro_wait_passed hw]

/-- A bus step that does not fulfil the wait. -/
theorem step_held {c : FlagWait} (h : Waiting s r (.wait c :: l)) (hs : step s = .next (resume t)) (he : t.eng = s.eng)
    (hc : t.cfg = s.cfg) (hw : c.holds t = false) : step s = .next t := by
  rw [hs, resume_eq ((remaining_congr he hc).trans h.left), runMicro_wait_held hw]

end Waiting

theorem runMicro_send {s : State} (hr : s.ctl.swrst = false) (b : Byte) (l : List Micro) :
    runMicro (.send b :: .wait .txifgSet :: l) s =
      advance { s with i2ctxbuf := b, txpending := true, ifg := { s.ifg with txifg := false } } := by
  rw [runMicro_of_act rfl rfl, writeTxbuf_awake hr, runMicro_wait_held rfl]

/-- The STOP is requested on an owned bus where none is pending (41_bus_controller.md R145). -/
theorem runMicro_stop {s : State} (hr : s.ctl.swrst = false) (hp : s.phase ≠ .idle) (htp : s.ctl.txstp = false) (l : List Micro) :
    runMicro (.stop :: l) s =
      runMicro l (advance { s with ctl := { s.ctl with txstp := true }, trace := s.trace ++ [.stopReq] }) := by
  have hstop : requestStop s = { s with ctl := { s.ctl with txstp := true }, trace := s.trace ++ [.stopReq] } := by
    simp [requestStop, hr, hp, htp, State.setTxstp, State.log]
  rw [runMicro_of_act rfl rfl, hstop]

theorem runMicro_startRead {s : State} (hr : s.ctl.swrst = false) (l : List Micro) :
    runMicro (.start false :: l) s = runMicro l (advance { s with ctl := { s.ctl with tr := false, txstt := true } }) := by
  have hact : act (.start false) s = .ok { s with ctl := { s.ctl with tr := false, txstt := true } } := by
    rw [act, writeCtl_start, requestStart_eq]
    simp [hr]
  rw [runMicro_of_act rfl hact]

theorem runMicro_take (s : State) (l : List Micro) : runMicro (.take :: l) s =
    runMicro l (advance (setLocalBytes (localBytes s ++ [s.i2crxbuf]) { s with ifg := { s.ifg with rxifg := false } })) := by
  rw [runMicro_of_act rfl rfl]
  rfl

/-! ## The bytes of WR and RD -/

/-- A field of I2CCTL written with the value it has. -/
theorem Ctl.with_txstp {c : Ctl} {b : Bool} (h : c.txstp = b) : { c with txstp := b } = c := by rw [← h]

namespace Waiting
variable {s : State} {r : Running} {rest : List Micro} {b : Byte} {acks : List Bool} {bytes : List Byte}

/-- The byte on the bus is acknowledged and the engine queues the next one. -/
theorem step_tx_then_send (h : Waiting s r (.wait .txifgSet :: .send b :: .wait .txifgSet :: rest)) (hp : s.phase = .tx)
    (hq : s.txpending = true) (hi : s.ifg = ⟨false, false, false⟩) (hack : s.peer.acks = true :: acks) :
    ∃ t, t = { s with
        eng := some { r with pos := r.pos + 2 }
        peer := { s.peer with acks := acks }
        i2ctxbuf := b
        trace := s.trace ++ [.tx s.i2ctxbuf true] } ∧
      step s = .next t ∧ Waiting t { r with pos := r.pos + 2 } (.wait .txifgSet :: rest) := by
  refine ⟨_, rfl, ?_, h.moved 2 r.bytes rfl rfl rfl rfl rfl⟩
  rw [h.step_passed (step_tx h.agenda hp hq hack) rfl rfl rfl, runMicro_send]
  · simp [advance, h.eng, hi, hq]
  · exact h.awake

/-- The last byte is acknowledged and the engine requests the STOP. -/
theorem step_tx_then_stop (h : Waiting s r (.wait .txifgSet :: .stop :: .wait .txstpClear :: rest)) (hp : s.phase = .tx)
    (hq : s.txpending = true) (htp : s.ctl.txstp = false) (hack : s.peer.acks = true :: acks) :
    ∃ t, t = { s with
        eng := some { r with pos := r.pos + 2 }
        peer := { s.peer with acks := acks }
        ctl := { s.ctl with txstp := true }
        txpending := false
        ifg := { s.ifg with txifg := true }
        trace := s.trace ++ [.tx s.i2ctxbuf true, .stopReq] } ∧
      step s = .next t ∧ Waiting t { r with pos := r.pos + 2 } (.wait .txstpClear :: rest) := by
  refine ⟨_, rfl, ?_, h.moved 2 r.bytes rfl rfl rfl rfl rfl⟩
  rw [h.step_passed (step_tx h.agenda hp hq hack) rfl rfl rfl, runMicro_stop, runMicro_wait_held rfl]
  · simp [advance, h.eng]
  · exact h.awake
  · simp [hp]
  · exact htp

/-- The STOP after a write is made and the engine goes on. -/
theorem step_stop_then {l : List Micro} (h : Waiting s r (.wait .txstpClear :: l)) (hp : s.phase = .tx)
    (hq : s.txpending = false) (htp : s.ctl.txstp = true) :
    step s = .next (runMicro l { s with
      eng := some { r with pos := r.pos + 1 }
      trace := s.trace ++ [.stop]
      ctl := { s.ctl with txstp := false }
      phase := .idle
      ifg := { s.ifg with txifg := false } }) := by
  rw [h.step_passed (step_stop h.agenda htp hp hq) rfl rfl rfl]
  simp [advance, h.eng]

/-- The register address is acknowledged and the engine requests the START to read. -/
theorem step_tx_then_startRead {c : FlagWait} (h : Waiting s r (.wait .txifgSet :: .start false :: .wait c :: rest))
    (hc : c = .rxifgSet ∨ c = .txsttClear) (hp : s.phase = .tx) (hq : s.txpending = true) (hi : s.ifg = ⟨false, false, false⟩)
    (hack : s.peer.acks = true :: acks) :
    ∃ t, t = { s with
        eng := some { r with pos := r.pos + 2 }
        peer := { s.peer with acks := acks }
        ctl := { s.ctl with tr := false, txstt := true }
        txpending := false
        ifg := ⟨false, true, false⟩
        trace := s.trace ++ [.tx s.i2ctxbuf true] } ∧
      step s = .next t ∧ Waiting t { r with pos := r.pos + 2 } (.wait c :: rest) := by
  refine ⟨_, rfl, ?_, h.moved 2 r.bytes rfl rfl rfl rfl rfl⟩
  rw [h.step_passed (step_tx h.agenda hp hq hack) rfl rfl rfl, runMicro_startRead, runMicro_wait_held]
  · simp [advance, h.eng, hi]
  · obtain rfl | rfl := hc
    · simp [FlagWait.holds, hi]
    · rfl
  · exact h.awake

/-- A byte is acknowledged and taken, and more than one follows. -/
theorem step_rx_then_wait (h : Waiting s r (.wait .rxifgSet :: .take :: .wait .rxifgSet :: rest)) (hp : s.phase = .rx)
    (hi : s.ifg = ⟨false, false, false⟩) (htt : s.ctl.txstt = false) (htp : s.ctl.txstp = false)
    (hb : s.peer.bytes = b :: bytes) :
    ∃ t, t = { s with
        eng := some { r with pos := r.pos + 2, bytes := r.bytes ++ [b] }
        peer := { s.peer with bytes := bytes }
        i2crxbuf := b
        trace := s.trace ++ [.rx b true] } ∧
      step s = .next t ∧ Waiting t { r with pos := r.pos + 2, bytes := r.bytes ++ [b] } (.wait .rxifgSet :: rest) := by
  refine ⟨_, rfl, ?_, h.moved 2 (r.bytes ++ [b]) rfl rfl rfl rfl rfl⟩
  rw [h.step_passed (step_rx h.agenda hp (by rw [hi]) htt hb) rfl rfl rfl, runMicro_take, runMicro_wait_held rfl]
  simp [advance, setLocalBytes, localBytes, h.eng, hi, hp, htp, Ctl.with_txstp]

/-- The last byte but one is acknowledged and taken, and the engine requests the STOP. -/
theorem step_rx_then_stop (h : Waiting s r (.wait .rxifgSet :: .take :: .stop :: .wait .rxifgSet :: rest)) (hp : s.phase = .rx)
    (hi : s.ifg = ⟨false, false, false⟩) (htt : s.ctl.txstt = false) (htp : s.ctl.txstp = false)
    (hb : s.peer.bytes = b :: bytes) :
    ∃ t, t = { s with
        eng := some { r with pos := r.pos + 3, bytes := r.bytes ++ [b] }
        peer := { s.peer with bytes := bytes }
        ctl := { s.ctl with txstp := true }
        i2crxbuf := b
        trace := s.trace ++ [.rx b true, .stopReq] } ∧
      step s = .next t ∧ Waiting t { r with pos := r.pos + 3, bytes := r.bytes ++ [b] } (.wait .rxifgSet :: rest) := by
  refine ⟨_, rfl, ?_, h.moved 3 (r.bytes ++ [b]) rfl rfl rfl rfl rfl⟩
  rw [h.step_passed (step_rx h.agenda hp (by rw [hi]) htt hb) rfl rfl rfl, runMicro_take, runMicro_stop, runMicro_wait_held rfl]
  · simp [advance, setLocalBytes, localBytes, h.eng, hi, hp, htp]
  · exact h.awake
  · simp [advance, setLocalBytes, htp]
  · rfl

/-- The last byte is not acknowledged, the STOP follows, and the bytes are stored. -/
theorem step_rx_then_store (h : Waiting s r (.wait .rxifgSet :: .take :: .storeRx :: rest)) (hp : s.phase = .rx)
    (hi : s.ifg = ⟨false, false, false⟩) (htt : s.ctl.txstt = false) (htp : s.ctl.txstp = true)
    (hb : s.peer.bytes = b :: bytes) :
    step s = .next (runMicro rest { s with
      eng := some { r with pos := r.pos + 3, bytes := r.bytes ++ [b] }
      peer := { s.peer with bytes := bytes }
      ctl := { s.ctl with txstp := false }
      phase := .idle
      i2crxbuf := b
      rxdata := writeBytes (r.bytes ++ [b]) 0 s.rxdata
      trace := s.trace ++ [.rx b false, .stop] }) := by
  rw [h.step_passed (step_rx h.agenda hp (by rw [hi]) htt hb) rfl rfl rfl, runMicro_take, runMicro_of_act rfl rfl]
  simp [advance, setLocalBytes, localBytes, h.eng, hi, htp]

/-- A START to read is acknowledged on the bus held for it, and more than one byte follows. -/
theorem step_restart_then_wait (h : Waiting s r (.wait .rxifgSet :: rest)) (htt : s.ctl.txstt = true)
    (hconf : s.configured = true) (htp : s.ctl.txstp = false) (htr : s.ctl.tr = false) (hp : s.phase = .tx)
    (hq : s.txpending = false) (hi : s.ifg = ⟨false, true, false⟩) (hack : s.peer.acks = true :: acks) :
    ∃ t, t = { s with
        peer := { s.peer with acks := acks }
        ctl := { s.ctl with txstt := false }
        phase := .rx
        ifg := ⟨false, false, false⟩
        trace := s.trace ++ [.restart, .addr s.i2csa true true] } ∧
      step s = .next t ∧ Waiting t r (.wait .rxifgSet :: rest) := by
  refine ⟨_, rfl, ?_, h.moved 0 r.bytes rfl h.eng rfl rfl rfl⟩
  rw [h.step_held (step_start h.agenda htt hconf htp (.inr (.inr ⟨hp, hq⟩)) hack) rfl rfl (by simp [FlagWait.holds, hi])]
  simp [htr, hp, hi]

/-- A START to read is acknowledged on the bus held for it, and the engine requests the STOP before the only byte. -/
theorem step_restart_then_stop (h : Waiting s r (.wait .txsttClear :: .stop :: .wait .rxifgSet :: rest))
    (htt : s.ctl.txstt = true) (hconf : s.configured = true) (htp : s.ctl.txstp = false) (htr : s.ctl.tr = false)
    (hp : s.phase = .tx) (hq : s.txpending = false) (hi : s.ifg = ⟨false, true, false⟩) (hack : s.peer.acks = true :: acks) :
    ∃ t, t = { s with
        eng := some { r with pos := r.pos + 2 }
        peer := { s.peer with acks := acks }
        ctl := { s.ctl with txstt := false, txstp := true }
        phase := .rx
        ifg := ⟨false, false, false⟩
        trace := s.trace ++ [.restart, .addr s.i2csa true true, .stopReq] } ∧
      step s = .next t ∧ Waiting t { r with pos := r.pos + 2 } (.wait .rxifgSet :: rest) := by
  refine ⟨_, rfl, ?_, h.moved 2 r.bytes rfl rfl rfl rfl rfl⟩
  rw [h.step_passed (step_start h.agenda htt hconf htp (.inr (.inr ⟨hp, hq⟩)) hack) rfl rfl rfl, runMicro_stop,
    runMicro_wait_held]
  · simp [advance, h.eng, htr, hp, hi]
  · simp [FlagWait.holds, hi]
  · exact h.awake
  · simp [htr]
  · exact htp

end Waiting

/-! ## WR (42_transport.md R184) -/

/-- A START to write is requested on a free bus, and the engine waits to send its first byte. -/
structure WriteDue (s : State) (r : Running) (l : List Micro) : Prop extends Waiting s r (.wait .txifgSet :: l) where
  configured : s.configured = true
  phase : s.phase = .idle
  txstt : s.ctl.txstt = true
  txstp : s.ctl.txstp = false
  tr : s.ctl.tr = true
  txpending : s.txpending = false
  ifg : s.ifg = ⟨false, false, false⟩

/-- The address is acknowledged and the first byte queued. -/
theorem WriteDue.step_start_then_send {s : State} {r : Running} {b : Byte} {rest : List Micro} {acks : List Bool}
    (h : WriteDue s r (.send b :: .wait .txifgSet :: rest)) (hack : s.peer.acks = true :: acks) :
    ∃ t, t = { s with
        eng := some { r with pos := r.pos + 2 }
        peer := { s.peer with acks := acks }
        ctl := { s.ctl with txstt := false }
        phase := .tx
        i2ctxbuf := b
        txpending := true
        trace := s.trace ++ [.start, .addr s.i2csa false true] } ∧
      step s = .next t ∧ Waiting t { r with pos := r.pos + 2 } (.wait .txifgSet :: rest) := by
  refine ⟨_, rfl, ?_, h.toWaiting.moved 2 r.bytes rfl rfl rfl rfl rfl⟩
  have hstep := step_start h.agenda h.txstt h.configured h.txstp (.inl h.phase) hack
  have hholds : (s.ctl.tr && !s.txpending) = true := by simp [h.tr, h.txpending]
  rw [h.toWaiting.step_passed hstep rfl rfl hholds, runMicro_send]
  · simp [advance, h.eng, h.tr, h.phase, h.ifg]
  · exact h.awake

/-- WR(reg, v) has been carried out from `s`, with `acks` the answers left. -/
def wrDone (r : Running) (reg v : Byte) (acks : List Bool) (s : State) : State :=
  { s with
    eng := some { r with pos := r.pos + 7 }
    peer := { s.peer with acks := acks }
    ctl := { s.ctl with txstt := false }
    i2ctxbuf := v
    trace := s.trace ++ wrTrace s.i2csa reg v }

section
variable {s : State} {r : Running} {reg v : Byte} {rest : List Micro} {acks : List Bool}
  (h : WriteDue s r ((wrProgram reg v).drop 3 ++ rest))
include h

theorem WriteDue.waiting_wrDone : Waiting (wrDone r reg v acks s) { r with pos := r.pos + 7 } rest :=
  h.toWaiting.moved 7 r.bytes rfl rfl rfl rfl rfl

/-- With an acknowledging peer the four bus steps of WR. -/
theorem WriteDue.run_wr (hack : s.peer.acks = true :: true :: true :: acks) :
    Sys2Proof.core.run 4 s = .next (runMicro rest (wrDone r reg v acks s)) := by
  obtain ⟨t1, rfl, hs1, h1⟩ := h.step_start_then_send hack
  obtain ⟨t2, rfl, hs2, h2⟩ := h1.step_tx_then_send rfl rfl h.ifg rfl
  obtain ⟨t3, rfl, hs3, h3⟩ := h2.step_tx_then_stop rfl rfl h.txstp rfl
  rw [run_succ hs1, run_succ hs2, run_succ hs3, run_one (h3.step_stop_then rfl rfl rfl)]
  simp [wrDone, wrTrace, h.phase, h.ifg, h.txstp, h.txpending]

end

/-! ## RD (42_transport.md R186) -/

/-- The receiving loop of RD where `m` bytes are still to come; the STOP is requested before the last. -/
def rdTail : Nat → List Micro
  | 0 => []
  | m + 1 => .wait .rxifgSet :: .take :: ((if m = 1 then [.stop] else []) ++ rdTail m)

theorem rdByte_loop {n m : Nat} (h : m ≤ n) : (List.range' (n - m) m).flatMap (rdByte n) = rdTail m := by
  induction m with
  | zero => rfl
  | succ m ih =>
    have hnext : n - (m + 1) + 1 = n - m := by omega
    have hstop : n - (m + 1) + 2 = n ↔ m = 1 := by omega
    rw [List.range'_succ, List.flatMap_cons, hnext, ih (by omega), rdTail, rdByte]
    simp [hstop]

/-- RD after its START to write has been requested. -/
theorem rdProgram_drop (reg : Byte) (n : Nat) : (rdProgram reg n).drop 4 =
    .send reg :: .wait .txifgSet :: .start false :: ((if n = 1 then [.wait .txsttClear, .stop] else []) ++ rdTail n ++ [.storeRx]) := by
  have hloop : (List.range n).flatMap (rdByte n) = rdTail n := by
    have h := rdByte_loop (Nat.le_refl n)
    rwa [Nat.sub_self, ← List.range_eq_range'] at h
  rw [rdProgram, hloop]
  simp

theorem rdTail_length (m : Nat) : (rdTail (m + 1 + 1)).length = 2 * m + 5 := by
  induction m with
  | zero => rfl
  | succ m ih =>
    rw [rdTail, if_neg (by omega)]
    simp only [List.nil_append, List.length_cons, ih]
    omega

/-- The last bytes of a read have been received from `s` and all of them stored: `d`, acknowledged, and `final`, not acknowledged. -/
def receivedDone (r : Running) (d : List Byte) (final : Byte) (bytes : List Byte) (s : State) : State :=
  { s with
    eng := some { r with pos := r.pos + ((rdTail (d.length + 1)).length + 1), bytes := r.bytes ++ d ++ [final] }
    peer := { s.peer with bytes := bytes }
    ctl := { s.ctl with txstp := false }
    phase := .idle
    i2crxbuf := final
    rxdata := writeBytes (r.bytes ++ d ++ [final]) 0 s.rxdata
    trace := s.trace ++ d.map (fun b => BusEvent.rx b true) ++ (if d = [] then [] else [.stopReq]) ++ [.rx final false, .stop] }

/-- The loop byte by byte: the STOP is pending exactly before the last one. -/
theorem Waiting.run_receive {d : List Byte} {final : Byte} {bytes : List Byte} {rest : List Micro} :
    ∀ {s : State} {r : Running}, Waiting s r (rdTail (d.length + 1) ++ .storeRx :: rest) → s.phase = .rx →
      s.ifg = ⟨false, false, false⟩ → s.ctl.txstt = false → s.ctl.txstp = decide (d = []) → s.peer.bytes = d ++ final :: bytes →
      Sys2Proof.core.run (d.length + 1) s = .next (runMicro rest (receivedDone r d final bytes s)) := by
  induction d with
  | nil =>
    intro s r h hp hi htt htp hb
    rw [List.length_nil, run_one (h.step_rx_then_store hp hi htt htp hb)]
    simp [receivedDone, rdTail]
  | cons b d ih =>
    intro s r h hp hi htt htp hb
    rw [List.length_cons]
    cases d with
    | nil =>
      obtain ⟨t, rfl, hs, ht⟩ := h.step_rx_then_stop hp hi htt htp hb
      rw [run_succ hs, ih ht hp hi htt rfl rfl]
      simp [receivedDone, rdTail, Nat.add_assoc]
    | cons b' d =>
      obtain ⟨t, ht, hs, hw⟩ := h.step_rx_then_wait hp hi htt htp hb
      have hdone : receivedDone { r with pos := r.pos + 2, bytes := r.bytes ++ [b] } (b' :: d) final bytes t =
          receivedDone r (b :: b' :: d) final bytes s := by
        simp [receivedDone, rdTail_length, ht]
        omega
      rw [run_succ hs, ih hw (by rw [ht, hp]) (by rw [ht, hi]) (by rw [ht, htt]) (by rw [ht]; exact htp) (by rw [ht]; rfl), hdone]

/-- The addresses of RD(reg, n) are sent and the first byte is awaited, with the STOP requested when it is the only one. -/
def readBegun (r : Running) (reg : Byte) (n : Nat) (acks : List Bool) (s : State) : State :=
  { s with
    eng := some { r with pos := r.pos + if n = 1 then 6 else 4 }
    peer := { s.peer with acks := acks }
    ctl := { s.ctl with tr := false, txstt := false, txstp := decide (n = 1) }
    phase := .rx
    i2ctxbuf := reg
    trace := s.trace ++ [.start, .addr s.i2csa false true, .tx reg true, .restart, .addr s.i2csa true true] ++
      if n = 1 then [.stopReq] else [] }

/-- RD(reg, d.length + 1) has been carried out from `s`, with `acks` and `bytes` the answers left. -/
def rdDone (r : Running) (reg : Byte) (d : List Byte) (final : Byte) (acks : List Bool) (bytes : List Byte) (s : State) : State :=
  { s with
    eng := some { r with pos := r.pos + (((rdProgram reg (d.length + 1)).drop 4).length + 1), bytes := d ++ [final] }
    peer := { s.peer with acks := acks, bytes := bytes }
    ctl := { s.ctl with tr := false, txstt := false }
    i2ctxbuf := reg
    i2crxbuf := final
    rxdata := writeBytes (d ++ [final]) 0 s.rxdata
    trace := s.trace ++ rdTrace s.i2csa reg d final }

section
variable {s : State} {r : Running} {reg : Byte} {rest : List Micro} {acks : List Bool}

/-- The three bus steps which send the addresses of RD. -/
theorem WriteDue.run_rdAddresses {m : Nat} (h : WriteDue s r ((rdProgram reg (m + 1)).drop 4 ++ rest))
    (hack : s.peer.acks = true :: true :: true :: acks) :
    Sys2Proof.core.run 3 s = .next (readBegun r reg (m + 1) acks s) ∧
      Waiting (readBegun r reg (m + 1) acks s) { r with pos := r.pos + if m + 1 = 1 then 6 else 4 }
        (rdTail (m + 1) ++ .storeRx :: rest) := by
  rw [rdProgram_drop] at h
  obtain ⟨t1, rfl, hs1, h1⟩ := h.step_start_then_send hack
  rw [run_succ hs1]
  cases m with
  | zero =>
    obtain ⟨t2, rfl, hs2, h2⟩ := h1.step_tx_then_startRead (.inr rfl) rfl rfl h.ifg rfl
    obtain ⟨t3, ht3, hs3, h3⟩ := h2.step_restart_then_stop rfl h.configured h.txstp rfl rfl rfl rfl rfl
    have ht : t3 = readBegun r reg 1 acks s := by
      rw [ht3]
      simp [readBegun, h.ifg, h.txpending]
    rw [← ht]
    exact ⟨(run_succ hs2 1).trans (run_one hs3), h3⟩
  | succ m =>
    obtain ⟨t2, rfl, hs2, h2⟩ := h1.step_tx_then_startRead (.inl rfl) rfl rfl h.ifg rfl
    obtain ⟨t3, ht3, hs3, h3⟩ := h2.step_restart_then_wait rfl h.configured h.txstp rfl rfl rfl rfl rfl
    have ht : t3 = readBegun r reg (m + 1 + 1) acks s := by
      rw [ht3]
      simp [readBegun, h.ifg, h.txpending, h.txstp]
    rw [← ht]
    refine ⟨(run_succ hs2 1).trans (run_one hs3), ?_⟩
    have hl : rdTail (m + 1 + 1) ++ .storeRx :: rest = rdTail (m + 1 + 1) ++ [.storeRx] ++ rest := by simp
    rw [hl]
    exact h3

variable {d : List Byte} {final : Byte} {bytes : List Byte}
  (h : WriteDue s r ((rdProgram reg (d.length + 1)).drop 4 ++ rest))
include h

/-- With an acknowledging peer the bus steps of RD: three for the addresses and one for each byte. -/
theorem WriteDue.run_rd (hnew : r.bytes = []) (hack : s.peer.acks = true :: true :: true :: acks)
    (hb : s.peer.bytes = d ++ final :: bytes) :
    Sys2Proof.core.run (d.length + 4) s = .next (runMicro rest (rdDone r reg d final acks bytes s)) := by
  obtain ⟨hrun, hw⟩ := h.run_rdAddresses hack
  have hstp : decide (d.length + 1 = 1) = decide (d = []) := by simp
  have hreceive := hw.run_receive rfl h.ifg rfl hstp hb
  have hdone : receivedDone { r with pos := r.pos + if d.length + 1 = 1 then 6 else 4 } d final bytes
      (readBegun r reg (d.length + 1) acks s) = rdDone r reg d final acks bytes s := by
    cases d with
    | nil => simp [receivedDone, readBegun, rdDone, rdProgram_drop, rdTail, rdTrace, hnew, h.phase, h.txstp]
    | cons b d =>
      simp [receivedDone, readBegun, rdDone, rdProgram_drop, rdTrace, hnew, h.phase, h.txstp]
      omega
  have hlen : d.length + 4 = 3 + (d.length + 1) := by omega
  rw [hlen, run_trans hrun hreceive, hdone]

end

end Sys2Proof.Machine
end

section
/-! Proofs. O49 to O53: whole transactions, put together from the issuing step, WR, the conversion step, RD and the final block. -/

namespace Sys2Proof.Machine

/-! ## Where a request for a write comes from -/

/-- The controller is configured and in IDLE, with nothing requested and nothing queued. -/
structure BusFree (s : State) : Prop where
  configured : s.configured = true
  phase : s.phase = .idle
  txstt : s.ctl.txstt = false
  txstp : s.ctl.txstp = false
  txpending : s.txpending = false

namespace BusFree
variable {s t : State} {r : Running} {l rest : List Micro}

theorem of_transportReady (h : transportReady s) : BusFree s := by
  obtain ⟨-, hconf, hp, htt, htp, hq⟩ := h
  exact ⟨hconf, hp, htt, htp, hq⟩

theorem awake (h : BusFree s) : s.ctl.swrst = false := by
  have hconf := h.configured
  simp only [State.configured, Bool.and_eq_true, Bool.not_eq_true'] at hconf
  exact hconf.2

theorem resetHeld (h : BusFree s) : ResetHeld s := by simp [ResetHeld, h.awake, h.phase]

/-- A START to write requested from a free bus is due. -/
theorem writeDue (h : BusFree s) (hw : Waiting t r (.wait .txifgSet :: l))
    (hctl : t.ctl = { s.ctl with tr := true, txstt := !s.ctl.swrst }) (hp : t.phase = s.phase) (hq : t.txpending = s.txpending)
    (hi : t.ifg = ⟨false, false, false⟩) : WriteDue t r l where
  toWaiting := hw
  configured := by
    have hconf := h.configured
    simpa [State.configured, hctl] using hconf
  phase := hp.trans h.phase
  txstt := by simp [hctl, h.awake]
  txstp := by simp [hctl, h.txstp]
  tr := by simp [hctl]
  txpending := hq.trans h.txpending
  ifg := hi

/-- The write of a command word to CMD which begins a transport command. -/
theorem step_issued {op : BitVec 4} {oss : BitVec 2} {i : Instr} {c : Command} {pos : Nat} (h : BusFree s)
    (ha : s.agenda = [.access (.write 2 offCmd (commandWord op oss))]) (hd : decodeCommand (commandWord op oss) = some i)
    (hx : exec i { s with agenda := [] } = .next (begun (commandWord op oss) c oss pos { s with agenda := [] }))
    (hl : (program s.cfg c s.arg oss).drop pos = .wait .txifgSet :: l) :
    step s = .next (begun (commandWord op oss) c oss pos { s with agenda := [] }) ∧
      WriteDue (begun (commandWord op oss) c oss pos { s with agenda := [] }) ⟨c, s.arg, oss, pos, []⟩ l := by
  refine ⟨?_, h.writeDue ⟨rfl, rfl, h.awake, hl⟩ rfl rfl rfl rfl⟩
  rw [step_access ha, hostAccess_of_decode (decode_cmd_of_some hd _), hx]

/-- The conversion step, which nothing forestalls, begins the read of the result. -/
theorem step_conv {t n : Nat} {reg : Byte} (h : BusFree s) (hw : Waiting s r (.convWait t :: (rdProgram reg n ++ rest))) :
    ∃ u, u = { s with
        trace := s.trace ++ [.convWait t]
        eng := some { r with pos := r.pos + 4, bytes := [] }
        ifg := ⟨false, false, false⟩
        ctl := { s.ctl with tr := true, txstt := !s.ctl.swrst } } ∧
      step s = .next u ∧ WriteDue u { r with pos := r.pos + 4, bytes := [] } ((rdProgram reg n).drop 4 ++ rest) := by
  refine ⟨_, rfl, ?_, h.writeDue (hw.moved 4 [] rfl rfl rfl rfl rfl) rfl rfl rfl rfl⟩
  have hbus : busEnabled s = false := by simp [busEnabled, startEnabled, txEnabled, rxEnabled, stopEnabled, h.phase, h.txstt]
  have hconv : convEnabled s = true := by simp [convEnabled, hw.left]
  rw [step_auto hw.agenda, autoStep, hbus, hconv, ← convStep_starts_read h.resetHeld hw.eng hw.left]
  rfl

/-- The hand-over of MEASURE_P stores UP and requests the START of its temperature cycle. -/
theorem runMicro_storeUp (h : BusFree s) (hw : Waiting s r (.storeUp :: .clearFlags :: .start true :: .wait .txifgSet :: l)) :
    ∃ u, u = { s with
        up := upOf r.bytes r.oss
        eng := some { r with pos := r.pos + 3 }
        ifg := ⟨false, false, false⟩
        ctl := { s.ctl with tr := true, txstt := !s.ctl.swrst } } ∧
      runMicro (.storeUp :: .clearFlags :: .start true :: .wait .txifgSet :: l) s = u ∧ WriteDue u { r with pos := r.pos + 3 } l := by
  refine ⟨_, rfl, ?_, h.writeDue (hw.moved 3 r.bytes rfl rfl rfl rfl rfl) rfl rfl rfl rfl⟩
  rw [runMicro_of_act rfl rfl, runMicro_requestWrite]
  · simp [writeRequested, advance, localBytes, engOss, hw.eng]
  · exact h.resetHeld

end BusFree

theorem WriteDue.busFree_wrDone {s : State} {r : Running} {l : List Micro} (h : WriteDue s r l) (reg v : Byte) (acks : List Bool) :
    BusFree (wrDone r reg v acks s) :=
  ⟨h.configured, h.phase, rfl, h.txstp, h.txpending⟩

/-! ## A measurement cycle (44_measurement.md R221, R223) -/

/-- The cycle of control byte `b` and conversion time `t` has been carried out from `s`; `d` and `final` are the bytes read. -/
def cycleDone (r : Running) (b : Byte) (t : Nat) (reg : Byte) (d : List Byte) (final : Byte) (acks : List Bool) (bytes : List Byte)
    (s : State) : State :=
  { s with
    eng := some { r with pos := r.pos + (((rdProgram reg (d.length + 1)).drop 4).length + 12), bytes := d ++ [final] }
    peer := { s.peer with acks := acks, bytes := bytes }
    ifg := ⟨false, false, false⟩
    ctl := { s.ctl with tr := false, txstt := false }
    i2ctxbuf := reg
    i2crxbuf := final
    rxdata := writeBytes (d ++ [final]) 0 s.rxdata
    trace := s.trace ++ wrTrace s.i2csa Config.regCtrl b ++ [.convWait t] ++ rdTrace s.i2csa reg d final }

/-- With an acknowledging peer the steps of a cycle: four for WR, the conversion step, and those of RD. -/
theorem WriteDue.run_cycle {s : State} {r : Running} {b reg final : Byte} {t : Nat} {d bytes : List Byte} {rest : List Micro}
    {acks : List Bool}
    (h : WriteDue s r ((wrProgram Config.regCtrl b).drop 3 ++ .convWait t :: (rdProgram reg (d.length + 1) ++ rest)))
    (hack : s.peer.acks = List.replicate 6 true ++ acks) (hb : s.peer.bytes = d ++ final :: bytes) :
    ∃ v, v = cycleDone r b t reg d final acks bytes s ∧ Sys2Proof.core.run (d.length + 9) s = .next (runMicro rest v) ∧
      BusFree v ∧ Waiting v { r with
        pos := r.pos + (((rdProgram reg (d.length + 1)).drop 4).length + 12), bytes := d ++ [final] } rest := by
  have hw : Waiting (wrDone r Config.regCtrl b (true :: true :: true :: acks) s) { r with pos := r.pos + 7 } _ := h.waiting_wrDone
  obtain ⟨u, hu, hs, hdue⟩ := (h.busFree_wrDone Config.regCtrl b _).step_conv hw
  have hwr : Sys2Proof.core.run 4 s = .next _ := h.run_wr hack
  have hrd := hdue.run_rd (acks := acks) rfl (by rw [hu]; rfl) (by rw [hu]; exact hb)
  have hdone : rdDone { r with pos := r.pos + 7 + 4, bytes := [] } reg d final acks bytes u =
      cycleDone r b t reg d final acks bytes s := by
    simp [hu, rdDone, wrDone, cycleDone]
    omega
  have hlen : d.length + 9 = 4 + (d.length + 4 + 1) := by omega
  refine ⟨_, rfl, ?_, ⟨h.configured, h.phase, rfl, h.txstp, h.txpending⟩, ?_⟩
  · rw [hlen, run_trans hwr ((run_succ (by rw [runMicro_convWait]; exact hs) _).trans hrd), hdone]
  · refine h.toWaiting.moved _ _ rfl rfl rfl rfl ?_
    exact List.drop_left

/-- What follows the request of a temperature cycle's write, up to the final block `rest`. -/
def tcycleTail (cfg : Config) (rest : List Micro) : List Micro :=
  (wrProgram Config.regCtrl tempControlByte).drop 3 ++ .convWait tempConvTime :: (rdProgram cfg.regOut 2 ++ rest)

/-- What follows the request of the write of MEASURE_P, up to its hand-over to the temperature cycle (44_measurement.md R225). -/
def pcycleTail (cfg : Config) (oss : BitVec 2) (rest : List Micro) : List Micro :=
  (wrProgram Config.regCtrl (pressControlByte oss)).drop 3 ++ .convWait (pressConvTime oss) :: (rdProgram cfg.regOut 3 ++
    .storeUp :: .clearFlags :: .start true :: .wait .txifgSet :: tcycleTail cfg rest)

theorem program_measureT_drop (cfg : Config) (arg : Word) (oss : BitVec 2) :
    (program cfg .measureT arg oss).drop 2 = .wait .txifgSet :: tcycleTail cfg [.storeUt, .calcTemp, .finish] := rfl

theorem program_measureP_drop (cfg : Config) (arg : Word) (oss : BitVec 2) :
    (program cfg .measureP arg oss).drop 2 = .wait .txifgSet :: pcycleTail cfg oss [.storeUt, .calcPress, .finish] := rfl

/-! ## What the final blocks leave -/

/-- The error a computation ends a command with (60_exceptions.md R289). -/
def errOf {α : Type} : Except Err α → Err
  | .ok _ => .none
  | .error e => e

/-- The 32-bit pattern of a result, or the register as it was where there is none. -/
def resultOr {α : Type} (old : Long) (f : α → Int) : Except Err α → Long
  | .ok v => BitVec.ofInt 32 (f v)
  | .error _ => old

/-- The end of MEASURE_T and CALC_T in one form (45_pipeline.md R244). -/
theorem runMicro_calcTemp_eq {s : State} {x : Except Err Int} (hx : temp s.cfg.tempArith s.cal s.ut.toNat = x) :
    runMicro [.calcTemp, .finish] s = { s with
      t10 := resultOr s.t10 id x
      status := { s.status with busy := false, done := true, err := errOf x }
      eng := none } := by
  rw [runMicro_act rfl, act_calcTemp, hx]
  cases x <;> rfl

/-- The end of MEASURE_P and CALC_P in one form (45_pipeline.md R251). -/
theorem runMicro_calcPress_eq {s : State} {x : Except Err (Int × Int)}
    (hx : press s.cal s.up.toNat s.ut.toNat (engOss s).toNat = x) :
    runMicro [.calcPress, .finish] s = { s with
      b5 := resultOr s.b5 Prod.fst x
      p := resultOr s.p Prod.snd x
      status := { s.status with busy := false, done := true, err := errOf x }
      eng := none } := by
  rw [runMicro_act rfl, act_calcPress, hx]
  cases x <;> rfl

/-- STATUS at the end of a measurement, whose store is valid (10_state.md R48). -/
theorem status_of_end {calv : Bool} {err e : Err} (hv : calv = true) (he : err = e) :
    (⟨false, true, calv, false, err⟩ : Status) = ⟨false, true, true, false, e⟩ := by
  rw [hv, he]

theorem writeBytes_get (d : List Byte) (i : Nat) (v : Vector Byte Config.rxdataSize) (j : Fin Config.rxdataSize) :
    (writeBytes d i v).get j = if i ≤ j.val ∧ j.val < i + d.length then d.getD (j.val - i) 0x00#8 else v.get j := by
  induction d generalizing i v with
  | nil =>
    rw [writeBytes, if_neg]
    simp only [List.length_nil]
    omega
  | cons b d ih =>
    rw [writeBytes, ih]
    have hset : (v.setIfInBounds i b).get j = if i = j.val then b else v.get j := Vector.getElem_setIfInBounds j.isLt
    rw [hset, List.length_cons]
    obtain hlt | heq | hgt := Nat.lt_trichotomy j.val i
    · rw [if_neg (by omega), if_neg (by omega), if_neg (by omega)]
    · rw [if_neg (by omega), if_pos heq.symm, if_pos (by omega), heq, Nat.sub_self, List.getD_cons_zero]
    · have hnext : j.val - i = j.val - (i + 1) + 1 := by omega
      have hrange : i + 1 ≤ j.val ∧ j.val < i + 1 + d.length ↔ i ≤ j.val ∧ j.val < i + (d.length + 1) := by omega
      rw [if_neg (show ¬ i = j.val by omega), hnext, List.getD_cons_succ]
      simp only [hrange]

/-- RXDATA after a read of the bytes `d` (10_state.md R62). -/
theorem writeBytes_zero_get (d : List Byte) (v : Vector Byte Config.rxdataSize) (j : Fin Config.rxdataSize) :
    (writeBytes d 0 v).get j = if j.val < d.length then d.getD j.val 0x00#8 else v.get j := by
  simp [writeBytes_get]

/-- Coefficient `i` is the pair of bytes 2i and 2i + 1 (43_calibration_store.md R211). -/
theorem calOf_get (d : List Byte) (i : Fin Config.nCoef) : (calOf d).get i = byteAt d (2 * i.val) ++ byteAt d (2 * i.val + 1) := by
  fin_cases i <;> rfl

/-! ## The transactions -/

/-- Settles O49: the issuing step and the four bus steps of WR. -/
theorem writeRegTransaction : Obligations.WriteRegTransaction := by
  intro oss s acks hready hag hack
  have hfree := BusFree.of_transportReady hready
  obtain ⟨hb, -, -, htt, -⟩ := hready
  obtain ⟨-, hd, -⟩ := decodeCommand_commandWord oss
  obtain ⟨hs, hdue⟩ := hfree.step_issued hag hd (writeRegBegins oss { s with agenda := [] } hfree.resetHeld hb) rfl
  rw [run_succ hs, WriteDue.run_wr (rest := [.finish]) hdue hack, runMicro_finish]
  simp [done, wrDone, begun, endedAtOnce, argReg, argVal, htt]

/-- Settles O50: the issuing step, the three bus steps of the addresses, and one for each byte. -/
theorem readBytesTransaction : Obligations.ReadBytesTransaction := by
  intro oss s acks d final bytes hready hag hack hbytes hcount hlen
  have hfree := BusFree.of_transportReady hready
  obtain ⟨hb, -, -, htt, -⟩ := hready
  obtain ⟨-, -, hd, -⟩ := decodeCommand_commandWord oss
  obtain ⟨hx, -⟩ := readCommandsBegin oss { s with agenda := [] } hfree.resetHeld hb
  have hlegal : 1 ≤ argCount s.arg ∧ argCount s.arg ≤ 32 := by
    rw [argCount, hcount]
    omega
  have hprog : (program s.cfg .readBytes s.arg oss).drop 3 =
      .wait .txifgSet :: ((rdProgram (argReg s.arg) (d.length + 1)).drop 4 ++ [.finish]) := by
    rw [program, argCount, hcount]
    rfl
  obtain ⟨hs, hdue⟩ := hfree.step_issued hag hd (hx hlegal.1 hlegal.2) hprog
  refine ⟨writeBytes (d ++ [final]) 0 s.rxdata, fun i => ?_, ?_⟩
  · rw [writeBytes_zero_get]
    simp
  · rw [run_succ hs, hdue.run_rd rfl hack hbytes, runMicro_finish]
    simp [done, rdDone, begun, endedAtOnce, argReg, htt]

/-- Settles O51: RD of 22 bytes, from which the store is filled. -/
theorem readCalTransaction : Obligations.ReadCalTransaction := by
  intro oss s acks d final bytes hready hag hack hbytes hlen
  have hfree := BusFree.of_transportReady hready
  obtain ⟨hb, -, hp, -⟩ := hready
  obtain ⟨-, -, -, hd, -⟩ := decodeCommand_commandWord oss
  obtain ⟨-, hx⟩ := readCommandsBegin oss { s with agenda := [] } hfree.resetHeld hb
  have hprog : (program s.cfg .readCal s.arg oss).drop 3 =
      .wait .txifgSet :: ((rdProgram s.cfg.regCal (d.length + 1)).drop 4 ++ [.storeCal, .finish]) := by
    rw [hlen]
    rfl
  obtain ⟨hs, hdue⟩ := hfree.step_issued hag hd hx hprog
  have hrun := (run_succ hs _).trans (hdue.run_rd rfl hack hbytes)
  rw [hlen, runMicro_of_act rfl rfl, runMicro_finish] at hrun
  refine ⟨_, hrun, fun i => calOf_get _ i, rfl, rfl, hp, rfl, fun i => ?_, rfl, rfl, rfl, rfl, rfl, rfl⟩
  refine (writeBytes_zero_get (d ++ [final]) s.rxdata i).trans ?_
  rw [List.length_append, hlen]
  rfl

/-- Settles O52: one cycle, and TEMP of the value it reads. -/
theorem measureTTransaction : Obligations.MeasureTTransaction := by
  intro oss s acks d0 d1 bytes hready hv hag hack hbytes
  have hfree := BusFree.of_transportReady hready
  obtain ⟨hb, -, hp, -⟩ := hready
  obtain ⟨-, -, -, -, hd, -⟩ := decodeCommand_commandWord oss
  obtain ⟨hx, -⟩ := measureCommandsBegin oss { s with agenda := [] } hfree.resetHeld hb hv
  obtain ⟨hs, hdue⟩ := hfree.step_issued hag hd hx (program_measureT_drop ..)
  obtain ⟨t, rfl, hcycle, -⟩ := hdue.run_cycle (d := [d0]) hack hbytes
  have hrun := (run_succ hs _).trans hcycle
  rw [runMicro_of_act rfl rfl,
    runMicro_calcTemp_eq (x := temp s.cfg.tempArith s.cal ((d0 ++ d1 : Word).toNat : Int)) rfl] at hrun
  refine ⟨_, hrun, rfl, rfl, rfl, hp, fun v h => ⟨?_, ?_⟩, fun e h => ⟨?_, ?_⟩, writeBytes_zero_get _ _, rfl, rfl, rfl, rfl, rfl⟩
  · exact congrArg (resultOr s.t10 id) h
  · exact status_of_end hv (congrArg errOf h)
  · exact congrArg (resultOr s.t10 id) h
  · exact status_of_end hv (congrArg errOf h)

theorem engOss_advance (s : State) : engOss (advance s) = engOss s := by cases h : s.eng <;> simp [engOss, advance, h]

/-- What MEASURE_P has done before PRESS, with `p0`, `p1`, `p2` and `d0`, `d1` the bytes its two cycles have read. -/
structure BothCyclesDone (oss : BitVec 2) (p0 p1 p2 d0 d1 : Byte) (s t : State) : Prop where
  trace : t.trace = s.trace ++ wrTrace s.i2csa Config.regCtrl (pressControlByte oss) ++ [.convWait (pressConvTime oss)]
    ++ rdTrace s.i2csa s.cfg.regOut [p0, p1] p2 ++ wrTrace s.i2csa Config.regCtrl tempControlByte ++ [.convWait tempConvTime]
    ++ rdTrace s.i2csa s.cfg.regOut [d0] d1
  phase : t.phase = .idle
  up : t.up = upOf [p0, p1, p2] oss
  bytes : localBytes t = [d0, d1]
  oss : engOss t = oss
  rxdata : t.rxdata = writeBytes [d0, d1] 0 (writeBytes [p0, p1, p2] 0 s.rxdata)
  status : t.status = ⟨true, false, s.status.calv, false, .none⟩
  t10 : t.t10 = s.t10
  p : t.p = s.p
  b5 : t.b5 = s.b5
  cal : t.cal = s.cal
  arg : t.arg = s.arg

/-- The issuing step, the pressure cycle with the hand-over, and the temperature cycle: 1 + 11 + 10 steps. -/
theorem run_bothCycles {oss : BitVec 2} {s : State} {acks : List Bool} {p0 p1 p2 d0 d1 : Byte} {bytes : List Byte}
    (hready : transportReady s) (hv : s.status.calv = true) (hag : s.agenda = [.access (.write 2 offCmd (commandWord 0x6#4 oss))])
    (hack : s.peer.acks = List.replicate 12 true ++ acks) (hbytes : s.peer.bytes = p0 :: p1 :: p2 :: d0 :: d1 :: bytes) :
    ∃ t, Sys2Proof.core.run 22 s = .next (runMicro [.storeUt, .calcPress, .finish] t) ∧
      BothCyclesDone oss p0 p1 p2 d0 d1 s t := by
  have hfree := BusFree.of_transportReady hready
  obtain ⟨hb, -, hp, -⟩ := hready
  obtain ⟨-, -, -, -, -, hd, -⟩ := decodeCommand_commandWord oss
  obtain ⟨-, hx⟩ := measureCommandsBegin oss { s with agenda := [] } hfree.resetHeld hb hv
  obtain ⟨hs, hdue⟩ := hfree.step_issued hag hd hx (program_measureP_drop ..)
  obtain ⟨t, ht, hpress, hfree', hw⟩ := hdue.run_cycle (d := [p0, p1]) (acks := List.replicate 6 true ++ acks) hack hbytes
  obtain ⟨u, hu, hover, hdue'⟩ := hfree'.runMicro_storeUp hw
  obtain ⟨v, hv, htemp, -⟩ := hdue'.run_cycle (d := [d0]) (final := d1) (acks := acks) (bytes := bytes)
    (by rw [hu, ht]; rfl) (by rw [hu, ht]; rfl)
  refine ⟨v, (run_succ hs _).trans (run_trans (hpress.trans (congrArg _ hover)) htemp), ?_⟩
  constructor
  case bytes => rw [hv]; rfl
  case oss => rw [hv]; rfl
  all_goals simp [hv, hu, ht, cycleDone, begun, hp]

/-- The two bytes of UT lie over the first two of the three pressure bytes (44_measurement.md R225). -/
theorem rxdata_bothCycles (p0 p1 p2 d0 d1 : Byte) (v : Vector Byte Config.rxdataSize) (i : Fin Config.rxdataSize) :
    (writeBytes [d0, d1] 0 (writeBytes [p0, p1, p2] 0 v)).get i =
      if i.val < 3 then [d0, d1, p2].getD i.val 0x00#8 else v.get i := by
  simp only [writeBytes_zero_get, List.length_cons, List.length_nil]
  by_cases h2 : i.val < 2
  · rw [if_pos h2, if_pos (by omega)]
    obtain h | h : i.val = 0 ∨ i.val = 1 := by omega
    · simp [h]
    · simp [h]
  · rw [if_neg h2]
    by_cases h3 : i.val < 3
    · have h : i.val = 2 := by omega
      simp [h]
    · rw [if_neg h3, if_neg h3]

/-- Settles O53: two cycles with the hand-over between them, and PRESS of the values they read. -/
theorem measurePTransaction : Obligations.MeasurePTransaction := by
  intro oss s acks p0 p1 p2 d0 d1 bytes hready hv hag hack hbytes up ut
  obtain ⟨t, hrun, h⟩ := run_bothCycles hready hv hag hack hbytes
  have hup : t.up.toNat = up := by
    rw [h.up]
    exact upOf_toNat p0 p1 p2 oss
  have hut : (utOf (localBytes t)).toNat = ut := by
    rw [h.bytes]
    exact toNat_append_byte d0 d1
  have hrx : ∀ i : Fin 32, t.rxdata.get i = if i.val < 3 then [d0, d1, p2].getD i.val 0#8 else s.rxdata.get i := by
    rw [h.rxdata]
    exact rxdata_bothCycles p0 p1 p2 d0 d1 s.rxdata
  have hstatus : ∀ {err : Err} (e : Err), err = e →
      ({ t.status with busy := false, done := true, err := err } : Status) = ⟨false, true, true, false, e⟩ := by
    intro err e he
    rw [h.status, hv, he]
  rw [runMicro_of_act rfl rfl, runMicro_calcPress_eq (x := press s.cal up ut oss.toNat)] at hrun
  · refine ⟨_, hrun, ?_, hup, hut, rfl, h.phase, fun b q hok => ⟨?_, ?_, ?_⟩, fun e herr => ⟨?_, ?_, ?_⟩, hrx, h.t10, h.cal, h.arg⟩
    · rw [← pressControlByte_eq]
      exact h.trace
    · show resultOr t.b5 Prod.fst (press s.cal up ut oss.toNat) = _
      rw [hok]
      rfl
    · show resultOr t.p Prod.snd (press s.cal up ut oss.toNat) = _
      rw [hok]
      rfl
    · refine hstatus _ ?_
      rw [hok]
      rfl
    · show resultOr t.b5 Prod.fst (press s.cal up ut oss.toNat) = _
      rw [herr]
      exact h.b5
    · show resultOr t.p Prod.snd (press s.cal up ut oss.toNat) = _
      rw [herr]
      exact h.p
    · refine hstatus _ ?_
      rw [herr]
      rfl
  · show press t.cal t.up.toNat (utOf (localBytes t)).toNat _ = _
    rw [engOss_advance, hup, hut, h.cal]
    exact congrArg (fun x : BitVec 2 => press s.cal up ut x.toNat) h.oss

end Sys2Proof.Machine
end
